-- ==== Sys2Proof/Word.lean ====
section
/-! DEFINITION. The word types of the machine: bytes, 16-bit instruction words, register numbers. -/

namespace Sys2Proof

/-- A byte: a general register, a flag register, a data-space location (10_state R20, 20_memory R66). -/
abbrev Byte := BitVec 8

/-- A word of program space (20_memory R60). -/
abbrev Word := BitVec 16

/-- The number of a general register, R0 to R31 (10_state R20). -/
abbrev Reg := Fin 32

end Sys2Proof
end

