-- ==== Sys2Proof/Config.lean ====
section
/-! DEFINITION. What an implementation fixes (00_scope R8, one plain record) and the free values, which no text fixes
(opaque constants, applied to data that State holds). The AVR128DA64's values stand in Machine/Device.lean. -/

namespace Sys2Proof

/-- The six core versions (00_scope R2). -/
inductive Core
  | avr
  | avre
  | avrePlus
  | avrxm
  | avrxt
  | avrrc
  deriving DecidableEq, Repr

/-- The width of a data-space pointer, DATA_PTR_BITS (00_scope R8, 42_data_transfer R260). -/
inductive PtrWidth
  | w8
  | w16
  | w24
  deriving DecidableEq, Repr

/-- DATA_PTR_BITS as a number. -/
def PtrWidth.bits : PtrWidth → Nat
  | .w8 => 8
  | .w16 => 16
  | .w24 => 24

/-- What stands behind a range of data addresses: the classes of DataMap (20_memory R70, 00_scope R8). A number that a kind
carries belongs to the first address of the range and counts up with the address, so that ranges, down to one address
long, write out any map. -/
inductive RegionKind
  /-- SRAM. -/
  | ram
  /-- I/O locations, the first of them `a`. -/
  | io (a : Nat)
  /-- General registers, the first of them `i`. -/
  | reg (i : Nat)
  /-- Program memory from byte address `base` on; a `stride` other than 0 moves the window by that many bytes for each step
  of State.flashMap (log 33). -/
  | progWindow (base stride : Nat)
  /-- Extended I/O: answered by the `Io` oracle. -/
  | other
  /-- Lock bits, fuses, user and signature row, EEPROM: answered by the `Io` oracle too, and slower to reach (70_reset R461,
  note 2). -/
  | nvm
  /-- Nothing, also where a later range would put something. -/
  | unmapped
  deriving DecidableEq, Repr

/-- A range of data addresses, both ends included (20_memory R74). -/
structure Region where
  first : Nat
  last : Nat
  kind : RegionKind
  deriving DecidableEq, Repr

/-- What Avail(m) of 00_scope R8 can withhold, one by one: the instructions of the rows of R4 marked "(device)", BREAK where
there is no on-chip debug (44_mcu R390), PUSH and POP where there is no SRAM (42_data_transfer R301); on which cores a device
may lack them says Core.mayLack. -/
inductive DeviceOption
  | adiw
  | sbiw
  | jmp
  | call
  | lpm
  | spm
  | brk
  | push
  | pop
  deriving DecidableEq, Repr

/-- Interrupt levels (60_exceptions R404): AVRxt has level 0, level 1 and NMI; AVRxm low, medium, high (0, 1, 2) and NMI;
the classic cores one level (0). -/
inductive IrqLevel
  | level0
  | level1
  | level2
  | nmi
  deriving DecidableEq, Repr

/-- The order of the levels, NMI highest (60_exceptions R407, R411). -/
def IrqLevel.rank : IrqLevel → Nat
  | .level0 => 0
  | .level1 => 1
  | .level2 => 2
  | .nmi => 3

/-- Whether a device function is interpreted or left out of the configuration (44_mcu R395). -/
inductive DeviceEffect
  | modelled
  | uninterpreted
  deriving DecidableEq, Repr

/-- The parameter SpmEffect (42_data_transfer R297, 92 D15; log 13). -/
inductive SpmEffect
  /-- SPM is refused. -/
  | absent
  /-- The operation the manual prints, "PS(RAMPZ:Z) ← R1:R0", at once. -/
  | writeWord
  /-- What the device's NVM controller does, a free function of the state, the byte address and the word: a page erase, a
  page-buffer load, a buffer write, a word written, or nothing where a gate is closed (60_exceptions R421). -/
  | device
  deriving DecidableEq, Repr

/-- The configuration record of 00_scope R8. It has no DMA controller: RAM is written by the CPU alone, on AVRxm too, where D14
asks that DMA be idle (20_memory R87; log 32). RET_BYTES follows from it (Config.retBytes, in
Machine/Device.lean); REG_LOW is read by the decoder alone (Instr.namesUpperOnly, log 24). -/
structure Config where
  core : Core
  /-- PC_BITS, at most 22. -/
  pcBits : Nat
  /-- FLASHEND, the highest word address of program space. -/
  flashEnd : Nat
  /-- RAMEND, the highest data address used as RAM. -/
  ramEnd : Nat
  ptrWidth : PtrWidth
  hasRampx : Bool
  hasRampy : Bool
  hasRampz : Bool
  hasRampd : Bool
  hasEind : Bool
  /-- IO_BASE, the data address of I/O address 0 (20_memory R73). -/
  ioBase : Nat
  /-- REGS_IN_DS: R0 to R31 are data addresses 0 to 31. -/
  regsInDs : Bool
  sregIo : Nat
  splIo : Nat
  sphIo : Nat
  rampdIo : Nat
  rampxIo : Nat
  rampyIo : Nat
  rampzIo : Nat
  eindIo : Nat
  /-- SP_BITS, at most 16. -/
  spBits : Nat
  spReset : Nat
  pcReset : Nat
  sregReset : Byte
  /-- DataMap outside the I/O space and the register file (20_memory R74); an address in none of them is Unmapped. -/
  regions : List Region
  /-- Avail: what this device lacks of what its core has, where devices of that core may (Core.mayLack). -/
  lacks : List DeviceOption
  /-- IVEC_BASE, a word address. -/
  ivecBase : Nat
  /-- IVEC_WORDS, words a vector slot. -/
  ivecWords : Nat
  /-- IVEC_COUNT, where the configuration binds it (open in 92 D21). -/
  ivecCount : Option Nat
  irqClearsI : Bool
  retiSetsI : Bool
  /-- LEVELS. -/
  levels : List IrqLevel
  spmEffect : SpmEffect
  sleepEffect : DeviceEffect
  wdrEffect : DeviceEffect
  breakEffect : DeviceEffect
  /-- DEBUG_ATTACHED (44_mcu R390). -/
  debugAttached : Bool
  deriving DecidableEq, Repr

/-- A location that the `Io` oracle answers (20_memory R72): an I/O address, or a data address of class Other. -/
inductive IoLoc
  | io (a : Nat)
  | other (a : Nat)
  deriving DecidableEq, Repr

/-- An event of the oracle's history (20_memory R72; 44_mcu R393 for wdr; 70_reset R441 for reset; 42_data_transfer R297 for
spm, what the NVM controller is handed). -/
inductive IoEvent
  | read (l : IoLoc)
  | write (l : IoLoc) (v : Byte)
  | wdr
  | reset
  | spm (addr : Nat) (word : Word)
  deriving DecidableEq, Repr

/-- FREE VALUE (log 4): the byte the `Io` oracle answers to a read of `l` after the history `h` (20_memory R72). -/
opaque Config.ioAnswer (h : List IoEvent) (l : IoLoc) : Byte

/-- FREE VALUE (log 3): the byte that the n-th read of a RAM location nothing has written returns (10_state R37). -/
opaque Config.ramDraw (n : Nat) : Byte

/-- FREE VALUE (log 14): DesRound (40_arithmetic_logic R173), from R15:R0, K and H (true: decrypt) to R15:R0. -/
opaque Config.desRound (block : BitVec 128) (k : BitVec 4) (h : Bool) : BitVec 128

/-- FREE VALUE (log 19): the n-th number of clock cycles that the spec leaves to the device (70_reset R461, R463). -/
opaque Config.openCycles (n : Nat) : Nat

end Sys2Proof
end

