-- ==== Sys2Proof/Syntax.lean ====
section
/-! DEFINITION. The instructions: one constructor per row of spec/opcode_table.json, in the table's order. A register
operand is the register's number (R22, R104), not its field; a constant, address or bit number is the field's value.
The rows with `alias_of` have constructors too; the decoder answers their canonical instruction (R115). -/

namespace Sys2Proof

/-- An instruction (00_scope R6). Each constructor's docstring gives the assembler form and the rule of its meaning. -/
inductive Instr
  -- Table 5-2: arithmetic and logic
  /-- ADD Rd,Rr (R145) -/
  | add (d : Reg) (r : Reg)
  /-- ADC Rd,Rr (R146) -/
  | adc (d : Reg) (r : Reg)
  /-- ADIW Rd,K (R147) -/
  | adiw (d : Reg) (k : BitVec 6)
  /-- SUB Rd,Rr (R148) -/
  | sub (d : Reg) (r : Reg)
  /-- SUBI Rd,K (R149) -/
  | subi (d : Reg) (k : BitVec 8)
  /-- SBC Rd,Rr (R150) -/
  | sbc (d : Reg) (r : Reg)
  /-- SBCI Rd,K (R151) -/
  | sbci (d : Reg) (k : BitVec 8)
  /-- SBIW Rd,K (R152) -/
  | sbiw (d : Reg) (k : BitVec 6)
  /-- AND Rd,Rr (R153) -/
  | and (d : Reg) (r : Reg)
  /-- ANDI Rd,K (R154) -/
  | andi (d : Reg) (k : BitVec 8)
  /-- OR Rd,Rr (R155) -/
  | or (d : Reg) (r : Reg)
  /-- ORI Rd,K (R156) -/
  | ori (d : Reg) (k : BitVec 8)
  /-- EOR Rd,Rr (R157) -/
  | eor (d : Reg) (r : Reg)
  /-- COM Rd (R158) -/
  | com (d : Reg)
  /-- NEG Rd (R159) -/
  | neg (d : Reg)
  /-- SBR Rd,K (R160; alias of ORI) -/
  | sbr (d : Reg) (k : BitVec 8)
  /-- CBR Rd,K (R161; alias of ANDI) -/
  | cbr (d : Reg) (k : BitVec 8)
  /-- INC Rd (R162) -/
  | inc (d : Reg)
  /-- DEC Rd (R163) -/
  | dec (d : Reg)
  /-- TST Rd (R164; alias of AND) -/
  | tst (d : Reg)
  /-- CLR Rd (R165; alias of EOR) -/
  | clr (d : Reg)
  /-- SER Rd (R166; alias of LDI) -/
  | ser (d : Reg)
  /-- MUL Rd,Rr (R167) -/
  | mul (d : Reg) (r : Reg)
  /-- MULS Rd,Rr (R168) -/
  | muls (d : Reg) (r : Reg)
  /-- MULSU Rd,Rr (R169) -/
  | mulsu (d : Reg) (r : Reg)
  /-- FMUL Rd,Rr (R170) -/
  | fmul (d : Reg) (r : Reg)
  /-- FMULS Rd,Rr (R171) -/
  | fmuls (d : Reg) (r : Reg)
  /-- FMULSU Rd,Rr (R172) -/
  | fmulsu (d : Reg) (r : Reg)
  /-- DES K (R173) -/
  | des (k : BitVec 4)
  -- Table 5-3: change of flow
  /-- RJMP k (R202) -/
  | rjmp (k : BitVec 12)
  /-- IJMP (R203) -/
  | ijmp
  /-- EIJMP (R204) -/
  | eijmp
  /-- JMP k (R205) -/
  | jmp (k : BitVec 22)
  /-- RCALL k (R206) -/
  | rcall (k : BitVec 12)
  /-- ICALL (R207) -/
  | icall
  /-- EICALL (R208) -/
  | eicall
  /-- CALL k (R209) -/
  | call (k : BitVec 22)
  /-- RET (R210) -/
  | ret
  /-- RETI (R211) -/
  | reti
  /-- CPSE Rd,Rr (R212) -/
  | cpse (d : Reg) (r : Reg)
  /-- CP Rd,Rr (R213) -/
  | cp (d : Reg) (r : Reg)
  /-- CPC Rd,Rr (R214) -/
  | cpc (d : Reg) (r : Reg)
  /-- CPI Rd,K (R215) -/
  | cpi (d : Reg) (k : BitVec 8)
  /-- SBRC Rr,b (R216) -/
  | sbrc (r : Reg) (b : BitVec 3)
  /-- SBRS Rr,b (R217) -/
  | sbrs (r : Reg) (b : BitVec 3)
  /-- SBIC A,b (R218) -/
  | sbic (a : BitVec 5) (b : BitVec 3)
  /-- SBIS A,b (R219) -/
  | sbis (a : BitVec 5) (b : BitVec 3)
  /-- BRBS s,k (R220) -/
  | brbs (f : BitVec 3) (k : BitVec 7)
  /-- BRBC s,k (R221) -/
  | brbc (f : BitVec 3) (k : BitVec 7)
  /-- BREQ k (R222; alias of BRBS) -/
  | breq (k : BitVec 7)
  /-- BRNE k (R223; alias of BRBC) -/
  | brne (k : BitVec 7)
  /-- BRCS k (R224; alias of BRBS) -/
  | brcs (k : BitVec 7)
  /-- BRCC k (R225; alias of BRBC) -/
  | brcc (k : BitVec 7)
  /-- BRSH k (R226; alias of BRBC) -/
  | brsh (k : BitVec 7)
  /-- BRLO k (R227; alias of BRBS) -/
  | brlo (k : BitVec 7)
  /-- BRMI k (R228; alias of BRBS) -/
  | brmi (k : BitVec 7)
  /-- BRPL k (R229; alias of BRBC) -/
  | brpl (k : BitVec 7)
  /-- BRGE k (R230; alias of BRBC) -/
  | brge (k : BitVec 7)
  /-- BRLT k (R231; alias of BRBS) -/
  | brlt (k : BitVec 7)
  /-- BRHS k (R232; alias of BRBS) -/
  | brhs (k : BitVec 7)
  /-- BRHC k (R233; alias of BRBC) -/
  | brhc (k : BitVec 7)
  /-- BRTS k (R234; alias of BRBS) -/
  | brts (k : BitVec 7)
  /-- BRTC k (R235; alias of BRBC) -/
  | brtc (k : BitVec 7)
  /-- BRVS k (R236; alias of BRBS) -/
  | brvs (k : BitVec 7)
  /-- BRVC k (R237; alias of BRBC) -/
  | brvc (k : BitVec 7)
  /-- BRIE k (R238; alias of BRBS) -/
  | brie (k : BitVec 7)
  /-- BRID k (R239; alias of BRBC) -/
  | brid (k : BitVec 7)
  -- Table 5-4: data transfer
  /-- MOV Rd,Rr (R262) -/
  | mov (d : Reg) (r : Reg)
  /-- MOVW Rd,Rr (R263) -/
  | movw (d : Reg) (r : Reg)
  /-- LDI Rd,K (R264) -/
  | ldi (d : Reg) (k : BitVec 8)
  /-- LDS Rd,k (R265) -/
  | lds (d : Reg) (k : BitVec 16)
  /-- LDS Rd,k (AVRrc) (R266) -/
  | ldsRc (d : Reg) (k : BitVec 8)
  /-- LD Rd,X (R267) -/
  | ldX (d : Reg)
  /-- LD Rd,X+ (R268) -/
  | ldXInc (d : Reg)
  /-- LD Rd,-X (R269) -/
  | ldXDec (d : Reg)
  /-- LD Rd,Y (R270) -/
  | ldY (d : Reg)
  /-- LD Rd,Y+ (R271) -/
  | ldYInc (d : Reg)
  /-- LD Rd,-Y (R272) -/
  | ldYDec (d : Reg)
  /-- LDD Rd,Y+q (R273) -/
  | lddY (d : Reg) (q : BitVec 6)
  /-- LD Rd,Z (R274) -/
  | ldZ (d : Reg)
  /-- LD Rd,Z+ (R275) -/
  | ldZInc (d : Reg)
  /-- LD Rd,-Z (R276) -/
  | ldZDec (d : Reg)
  /-- LDD Rd,Z+q (R277) -/
  | lddZ (d : Reg) (q : BitVec 6)
  /-- STS k,Rr (R278) -/
  | sts (k : BitVec 16) (r : Reg)
  /-- STS k,Rr (AVRrc) (R279) -/
  | stsRc (k : BitVec 8) (r : Reg)
  /-- ST X,Rr (R280) -/
  | stX (r : Reg)
  /-- ST X+,Rr (R281) -/
  | stXInc (r : Reg)
  /-- ST -X,Rr (R282) -/
  | stXDec (r : Reg)
  /-- ST Y,Rr (R283) -/
  | stY (r : Reg)
  /-- ST Y+,Rr (R284) -/
  | stYInc (r : Reg)
  /-- ST -Y,Rr (R285) -/
  | stYDec (r : Reg)
  /-- STD Y+q,Rr (R286) -/
  | stdY (q : BitVec 6) (r : Reg)
  /-- ST Z,Rr (R287) -/
  | stZ (r : Reg)
  /-- ST Z+,Rr (R288) -/
  | stZInc (r : Reg)
  /-- ST -Z,Rr (R289) -/
  | stZDec (r : Reg)
  /-- STD Z+q,Rr (R290) -/
  | stdZ (q : BitVec 6) (r : Reg)
  /-- LPM (R291) -/
  | lpmR0
  /-- LPM Rd,Z (R292) -/
  | lpmZ (d : Reg)
  /-- LPM Rd,Z+ (R293) -/
  | lpmZInc (d : Reg)
  /-- ELPM (R294) -/
  | elpmR0
  /-- ELPM Rd,Z (R295) -/
  | elpmZ (d : Reg)
  /-- ELPM Rd,Z+ (R296) -/
  | elpmZInc (d : Reg)
  /-- SPM (R297) -/
  | spm
  /-- SPM Z+ (R298) -/
  | spmZInc
  /-- IN Rd,A (R299) -/
  | inIo (d : Reg) (a : BitVec 6)
  /-- OUT A,Rr (R300) -/
  | out (a : BitVec 6) (r : Reg)
  /-- PUSH Rr (R301) -/
  | push (r : Reg)
  /-- POP Rd (R302) -/
  | pop (d : Reg)
  /-- XCH Z,Rd (R303) -/
  | xch (d : Reg)
  /-- LAS Z,Rd (R304) -/
  | las (d : Reg)
  /-- LAC Z,Rd (R305) -/
  | lac (d : Reg)
  /-- LAT Z,Rd (R306) -/
  | lat (d : Reg)
  -- Table 5-5: bit and bit-test
  /-- LSL Rd (R340; alias of ADD) -/
  | lsl (d : Reg)
  /-- LSR Rd (R341) -/
  | lsr (d : Reg)
  /-- ROL Rd (R342; alias of ADC) -/
  | rol (d : Reg)
  /-- ROR Rd (R343) -/
  | ror (d : Reg)
  /-- ASR Rd (R344) -/
  | asr (d : Reg)
  /-- SWAP Rd (R345) -/
  | swap (d : Reg)
  /-- SBI A,b (R346) -/
  | sbi (a : BitVec 5) (b : BitVec 3)
  /-- CBI A,b (R347) -/
  | cbi (a : BitVec 5) (b : BitVec 3)
  /-- BST Rr,b (R348) -/
  | bst (r : Reg) (b : BitVec 3)
  /-- BLD Rd,b (R349) -/
  | bld (d : Reg) (b : BitVec 3)
  /-- BSET s (R350) -/
  | bset (f : BitVec 3)
  /-- BCLR s (R351) -/
  | bclr (f : BitVec 3)
  /-- SEC (R352; alias of BSET) -/
  | sec
  /-- CLC (R353; alias of BCLR) -/
  | clc
  /-- SEN (R354; alias of BSET) -/
  | sen
  /-- CLN (R355; alias of BCLR) -/
  | cln
  /-- SEZ (R356; alias of BSET) -/
  | sez
  /-- CLZ (R357; alias of BCLR) -/
  | clz
  /-- SEI (R358; alias of BSET) -/
  | sei
  /-- CLI (R359; alias of BCLR) -/
  | cli
  /-- SES (R360; alias of BSET) -/
  | ses
  /-- CLS (R361; alias of BCLR) -/
  | cls
  /-- SEV (R362; alias of BSET) -/
  | sev
  /-- CLV (R363; alias of BCLR) -/
  | clv
  /-- SET (R364; alias of BSET) -/
  | set
  /-- CLT (R365; alias of BCLR) -/
  | clt
  /-- SEH (R366; alias of BSET) -/
  | seh
  /-- CLH (R367; alias of BCLR) -/
  | clh
  -- Table 5-6: MCU control
  /-- BREAK (R390) -/
  | brk
  /-- NOP (R391) -/
  | nop
  /-- SLEEP (R392) -/
  | sleep
  /-- WDR (R393) -/
  | wdr
  deriving DecidableEq, Repr

/-- The mnemonic of spec/opcode_table.json. -/
def Instr.mnemonic : Instr → String
  | .add _ _ => "ADD"
  | .adc _ _ => "ADC"
  | .adiw _ _ => "ADIW"
  | .sub _ _ => "SUB"
  | .subi _ _ => "SUBI"
  | .sbc _ _ => "SBC"
  | .sbci _ _ => "SBCI"
  | .sbiw _ _ => "SBIW"
  | .and _ _ => "AND"
  | .andi _ _ => "ANDI"
  | .or _ _ => "OR"
  | .ori _ _ => "ORI"
  | .eor _ _ => "EOR"
  | .com _ => "COM"
  | .neg _ => "NEG"
  | .sbr _ _ => "SBR"
  | .cbr _ _ => "CBR"
  | .inc _ => "INC"
  | .dec _ => "DEC"
  | .tst _ => "TST"
  | .clr _ => "CLR"
  | .ser _ => "SER"
  | .mul _ _ => "MUL"
  | .muls _ _ => "MULS"
  | .mulsu _ _ => "MULSU"
  | .fmul _ _ => "FMUL"
  | .fmuls _ _ => "FMULS"
  | .fmulsu _ _ => "FMULSU"
  | .des _ => "DES"
  | .rjmp _ => "RJMP"
  | .ijmp => "IJMP"
  | .eijmp => "EIJMP"
  | .jmp _ => "JMP"
  | .rcall _ => "RCALL"
  | .icall => "ICALL"
  | .eicall => "EICALL"
  | .call _ => "CALL"
  | .ret => "RET"
  | .reti => "RETI"
  | .cpse _ _ => "CPSE"
  | .cp _ _ => "CP"
  | .cpc _ _ => "CPC"
  | .cpi _ _ => "CPI"
  | .sbrc _ _ => "SBRC"
  | .sbrs _ _ => "SBRS"
  | .sbic _ _ => "SBIC"
  | .sbis _ _ => "SBIS"
  | .brbs _ _ => "BRBS"
  | .brbc _ _ => "BRBC"
  | .breq _ => "BREQ"
  | .brne _ => "BRNE"
  | .brcs _ => "BRCS"
  | .brcc _ => "BRCC"
  | .brsh _ => "BRSH"
  | .brlo _ => "BRLO"
  | .brmi _ => "BRMI"
  | .brpl _ => "BRPL"
  | .brge _ => "BRGE"
  | .brlt _ => "BRLT"
  | .brhs _ => "BRHS"
  | .brhc _ => "BRHC"
  | .brts _ => "BRTS"
  | .brtc _ => "BRTC"
  | .brvs _ => "BRVS"
  | .brvc _ => "BRVC"
  | .brie _ => "BRIE"
  | .brid _ => "BRID"
  | .mov _ _ => "MOV"
  | .movw _ _ => "MOVW"
  | .ldi _ _ => "LDI"
  | .lds _ _ => "LDS"
  | .ldsRc _ _ => "LDS"
  | .ldX _ => "LD"
  | .ldXInc _ => "LD"
  | .ldXDec _ => "LD"
  | .ldY _ => "LD"
  | .ldYInc _ => "LD"
  | .ldYDec _ => "LD"
  | .lddY _ _ => "LDD"
  | .ldZ _ => "LD"
  | .ldZInc _ => "LD"
  | .ldZDec _ => "LD"
  | .lddZ _ _ => "LDD"
  | .sts _ _ => "STS"
  | .stsRc _ _ => "STS"
  | .stX _ => "ST"
  | .stXInc _ => "ST"
  | .stXDec _ => "ST"
  | .stY _ => "ST"
  | .stYInc _ => "ST"
  | .stYDec _ => "ST"
  | .stdY _ _ => "STD"
  | .stZ _ => "ST"
  | .stZInc _ => "ST"
  | .stZDec _ => "ST"
  | .stdZ _ _ => "STD"
  | .lpmR0 => "LPM"
  | .lpmZ _ => "LPM"
  | .lpmZInc _ => "LPM"
  | .elpmR0 => "ELPM"
  | .elpmZ _ => "ELPM"
  | .elpmZInc _ => "ELPM"
  | .spm => "SPM"
  | .spmZInc => "SPM"
  | .inIo _ _ => "IN"
  | .out _ _ => "OUT"
  | .push _ => "PUSH"
  | .pop _ => "POP"
  | .xch _ => "XCH"
  | .las _ => "LAS"
  | .lac _ => "LAC"
  | .lat _ => "LAT"
  | .lsl _ => "LSL"
  | .lsr _ => "LSR"
  | .rol _ => "ROL"
  | .ror _ => "ROR"
  | .asr _ => "ASR"
  | .swap _ => "SWAP"
  | .sbi _ _ => "SBI"
  | .cbi _ _ => "CBI"
  | .bst _ _ => "BST"
  | .bld _ _ => "BLD"
  | .bset _ => "BSET"
  | .bclr _ => "BCLR"
  | .sec => "SEC"
  | .clc => "CLC"
  | .sen => "SEN"
  | .cln => "CLN"
  | .sez => "SEZ"
  | .clz => "CLZ"
  | .sei => "SEI"
  | .cli => "CLI"
  | .ses => "SES"
  | .cls => "CLS"
  | .sev => "SEV"
  | .clv => "CLV"
  | .set => "SET"
  | .clt => "CLT"
  | .seh => "SEH"
  | .clh => "CLH"
  | .brk => "BREAK"
  | .nop => "NOP"
  | .sleep => "SLEEP"
  | .wdr => "WDR"

end Sys2Proof
end

