-- ==== Sys2Proof/WellFormed.lean ====
section
/-! DEFINITION. Which operands an instruction can name (10_state R22, 30_encoding R104, R117; 42_data_transfer R266). An
operand whose type already has exactly the range of its field needs no check. -/

namespace Sys2Proof

/-- R16 to R31: the "upper half" class of R22. -/
def Reg.isUpper (r : Reg) : Bool := 16 ≤ r.val

/-- R16 to R23: the class of MULSU and the fractional multiplies (R22). -/
def Reg.isMul (r : Reg) : Bool := 16 ≤ r.val && r.val ≤ 23

/-- The low register of an upper pair, "d ∈ {24, 26, 28, 30}" (R22). -/
def Reg.isUpperPair (r : Reg) : Bool := 24 ≤ r.val && r.val % 2 == 0

/-- The low register of a pair, "d, r ∈ {0, 2, …, 30}" (R22). -/
def Reg.isPair (r : Reg) : Bool := r.val % 2 == 0

/-- A data address that the one-word LDS and STS of AVRrc reach, 0x40 to 0xBF (42_data_transfer R266, R279). -/
def rcAddrOk (k : BitVec 8) : Bool := 0x40 ≤ k.toNat && k.toNat ≤ 0xBF

/-- The operands are ones the instruction's encoding admits. -/
def Instr.wellFormed : Instr → Bool
  | .adiw d _ => d.isUpperPair
  | .sbiw d _ => d.isUpperPair
  | .subi d _ => d.isUpper
  | .sbci d _ => d.isUpper
  | .andi d _ => d.isUpper
  | .ori d _ => d.isUpper
  | .sbr d _ => d.isUpper
  | .cbr d _ => d.isUpper
  | .cpi d _ => d.isUpper
  | .ldi d _ => d.isUpper
  | .ser d => d.isUpper
  | .muls d r => d.isUpper && r.isUpper
  | .mulsu d r => d.isMul && r.isMul
  | .fmul d r => d.isMul && r.isMul
  | .fmuls d r => d.isMul && r.isMul
  | .fmulsu d r => d.isMul && r.isMul
  | .movw d r => d.isPair && r.isPair
  | .lddY _ q => q != 0
  | .lddZ _ q => q != 0
  | .stdY q _ => q != 0
  | .stdZ q _ => q != 0
  | .ldsRc d k => d.isUpper && rcAddrOk k
  | .stsRc k r => r.isUpper && rcAddrOk k
  | .add _ _ => true
  | .adc _ _ => true
  | .sub _ _ => true
  | .sbc _ _ => true
  | .and _ _ => true
  | .or _ _ => true
  | .eor _ _ => true
  | .com _ => true
  | .neg _ => true
  | .inc _ => true
  | .dec _ => true
  | .tst _ => true
  | .clr _ => true
  | .mul _ _ => true
  | .des _ => true
  | .rjmp _ => true
  | .ijmp => true
  | .eijmp => true
  | .jmp _ => true
  | .rcall _ => true
  | .icall => true
  | .eicall => true
  | .call _ => true
  | .ret => true
  | .reti => true
  | .cpse _ _ => true
  | .cp _ _ => true
  | .cpc _ _ => true
  | .sbrc _ _ => true
  | .sbrs _ _ => true
  | .sbic _ _ => true
  | .sbis _ _ => true
  | .brbs _ _ => true
  | .brbc _ _ => true
  | .breq _ => true
  | .brne _ => true
  | .brcs _ => true
  | .brcc _ => true
  | .brsh _ => true
  | .brlo _ => true
  | .brmi _ => true
  | .brpl _ => true
  | .brge _ => true
  | .brlt _ => true
  | .brhs _ => true
  | .brhc _ => true
  | .brts _ => true
  | .brtc _ => true
  | .brvs _ => true
  | .brvc _ => true
  | .brie _ => true
  | .brid _ => true
  | .mov _ _ => true
  | .lds _ _ => true
  | .ldX _ => true
  | .ldXInc _ => true
  | .ldXDec _ => true
  | .ldY _ => true
  | .ldYInc _ => true
  | .ldYDec _ => true
  | .ldZ _ => true
  | .ldZInc _ => true
  | .ldZDec _ => true
  | .sts _ _ => true
  | .stX _ => true
  | .stXInc _ => true
  | .stXDec _ => true
  | .stY _ => true
  | .stYInc _ => true
  | .stYDec _ => true
  | .stZ _ => true
  | .stZInc _ => true
  | .stZDec _ => true
  | .lpmR0 => true
  | .lpmZ _ => true
  | .lpmZInc _ => true
  | .elpmR0 => true
  | .elpmZ _ => true
  | .elpmZInc _ => true
  | .spm => true
  | .spmZInc => true
  | .inIo _ _ => true
  | .out _ _ => true
  | .push _ => true
  | .pop _ => true
  | .xch _ => true
  | .las _ => true
  | .lac _ => true
  | .lat _ => true
  | .lsl _ => true
  | .lsr _ => true
  | .rol _ => true
  | .ror _ => true
  | .asr _ => true
  | .swap _ => true
  | .sbi _ _ => true
  | .cbi _ _ => true
  | .bst _ _ => true
  | .bld _ _ => true
  | .bset _ => true
  | .bclr _ => true
  | .sec => true
  | .clc => true
  | .sen => true
  | .cln => true
  | .sez => true
  | .clz => true
  | .sei => true
  | .cli => true
  | .ses => true
  | .cls => true
  | .sev => true
  | .clv => true
  | .set => true
  | .clt => true
  | .seh => true
  | .clh => true
  | .brk => true
  | .nop => true
  | .sleep => true
  | .wdr => true

/-- Every register the instruction names exists on a core without R0 to R15 (30_encoding R119: a five-bit register field
must have its top bit set). -/
def Instr.namesUpperOnly : Instr → Bool
  | .add d r => d.isUpper && r.isUpper
  | .adc d r => d.isUpper && r.isUpper
  | .adiw d _ => d.isUpper
  | .sub d r => d.isUpper && r.isUpper
  | .subi d _ => d.isUpper
  | .sbc d r => d.isUpper && r.isUpper
  | .sbci d _ => d.isUpper
  | .sbiw d _ => d.isUpper
  | .and d r => d.isUpper && r.isUpper
  | .andi d _ => d.isUpper
  | .or d r => d.isUpper && r.isUpper
  | .ori d _ => d.isUpper
  | .eor d r => d.isUpper && r.isUpper
  | .com d => d.isUpper
  | .neg d => d.isUpper
  | .sbr d _ => d.isUpper
  | .cbr d _ => d.isUpper
  | .inc d => d.isUpper
  | .dec d => d.isUpper
  | .tst d => d.isUpper
  | .clr d => d.isUpper
  | .ser d => d.isUpper
  | .mul d r => d.isUpper && r.isUpper
  | .muls d r => d.isUpper && r.isUpper
  | .mulsu d r => d.isUpper && r.isUpper
  | .fmul d r => d.isUpper && r.isUpper
  | .fmuls d r => d.isUpper && r.isUpper
  | .fmulsu d r => d.isUpper && r.isUpper
  | .des _ => true
  | .rjmp _ => true
  | .ijmp => true
  | .eijmp => true
  | .jmp _ => true
  | .rcall _ => true
  | .icall => true
  | .eicall => true
  | .call _ => true
  | .ret => true
  | .reti => true
  | .cpse d r => d.isUpper && r.isUpper
  | .cp d r => d.isUpper && r.isUpper
  | .cpc d r => d.isUpper && r.isUpper
  | .cpi d _ => d.isUpper
  | .sbrc r _ => r.isUpper
  | .sbrs r _ => r.isUpper
  | .sbic _ _ => true
  | .sbis _ _ => true
  | .brbs _ _ => true
  | .brbc _ _ => true
  | .breq _ => true
  | .brne _ => true
  | .brcs _ => true
  | .brcc _ => true
  | .brsh _ => true
  | .brlo _ => true
  | .brmi _ => true
  | .brpl _ => true
  | .brge _ => true
  | .brlt _ => true
  | .brhs _ => true
  | .brhc _ => true
  | .brts _ => true
  | .brtc _ => true
  | .brvs _ => true
  | .brvc _ => true
  | .brie _ => true
  | .brid _ => true
  | .mov d r => d.isUpper && r.isUpper
  | .movw d r => d.isUpper && r.isUpper
  | .ldi d _ => d.isUpper
  | .lds d _ => d.isUpper
  | .ldsRc d _ => d.isUpper
  | .ldX d => d.isUpper
  | .ldXInc d => d.isUpper
  | .ldXDec d => d.isUpper
  | .ldY d => d.isUpper
  | .ldYInc d => d.isUpper
  | .ldYDec d => d.isUpper
  | .lddY d _ => d.isUpper
  | .ldZ d => d.isUpper
  | .ldZInc d => d.isUpper
  | .ldZDec d => d.isUpper
  | .lddZ d _ => d.isUpper
  | .sts _ r => r.isUpper
  | .stsRc _ r => r.isUpper
  | .stX r => r.isUpper
  | .stXInc r => r.isUpper
  | .stXDec r => r.isUpper
  | .stY r => r.isUpper
  | .stYInc r => r.isUpper
  | .stYDec r => r.isUpper
  | .stdY _ r => r.isUpper
  | .stZ r => r.isUpper
  | .stZInc r => r.isUpper
  | .stZDec r => r.isUpper
  | .stdZ _ r => r.isUpper
  | .lpmR0 => true
  | .lpmZ d => d.isUpper
  | .lpmZInc d => d.isUpper
  | .elpmR0 => true
  | .elpmZ d => d.isUpper
  | .elpmZInc d => d.isUpper
  | .spm => true
  | .spmZInc => true
  | .inIo d _ => d.isUpper
  | .out _ r => r.isUpper
  | .push r => r.isUpper
  | .pop d => d.isUpper
  | .xch d => d.isUpper
  | .las d => d.isUpper
  | .lac d => d.isUpper
  | .lat d => d.isUpper
  | .lsl d => d.isUpper
  | .lsr d => d.isUpper
  | .rol d => d.isUpper
  | .ror d => d.isUpper
  | .asr d => d.isUpper
  | .swap d => d.isUpper
  | .sbi _ _ => true
  | .cbi _ _ => true
  | .bst r _ => r.isUpper
  | .bld d _ => d.isUpper
  | .bset _ => true
  | .bclr _ => true
  | .sec => true
  | .clc => true
  | .sen => true
  | .cln => true
  | .sez => true
  | .clz => true
  | .sei => true
  | .cli => true
  | .ses => true
  | .cls => true
  | .sev => true
  | .clv => true
  | .set => true
  | .clt => true
  | .seh => true
  | .clh => true
  | .brk => true
  | .nop => true
  | .sleep => true
  | .wdr => true

/-- The canonical instruction of an alias, 30_encoding R115: "it has exactly the canonical semantics". -/
def Instr.canonical : Instr → Instr
  | .sbr d k => .ori d k
  | .cbr d k => .andi d (255#8 - k)
  | .tst d => .and d d
  | .clr d => .eor d d
  | .ser d => .ldi d 0xFF#8
  | .breq k => .brbs 1#3 k
  | .brne k => .brbc 1#3 k
  | .brcs k => .brbs 0#3 k
  | .brcc k => .brbc 0#3 k
  | .brsh k => .brbc 0#3 k
  | .brlo k => .brbs 0#3 k
  | .brmi k => .brbs 2#3 k
  | .brpl k => .brbc 2#3 k
  | .brge k => .brbc 4#3 k
  | .brlt k => .brbs 4#3 k
  | .brhs k => .brbs 5#3 k
  | .brhc k => .brbc 5#3 k
  | .brts k => .brbs 6#3 k
  | .brtc k => .brbc 6#3 k
  | .brvs k => .brbs 3#3 k
  | .brvc k => .brbc 3#3 k
  | .brie k => .brbs 7#3 k
  | .brid k => .brbc 7#3 k
  | .lsl d => .add d d
  | .rol d => .adc d d
  | .sec => .bset 0#3
  | .clc => .bclr 0#3
  | .sen => .bset 2#3
  | .cln => .bclr 2#3
  | .sez => .bset 1#3
  | .clz => .bclr 1#3
  | .sei => .bset 7#3
  | .cli => .bclr 7#3
  | .ses => .bset 4#3
  | .cls => .bclr 4#3
  | .sev => .bset 3#3
  | .clv => .bclr 3#3
  | .set => .bset 6#3
  | .clt => .bclr 6#3
  | .seh => .bset 5#3
  | .clh => .bclr 5#3
  | .add d r => .add d r
  | .adc d r => .adc d r
  | .adiw d k => .adiw d k
  | .sub d r => .sub d r
  | .subi d k => .subi d k
  | .sbc d r => .sbc d r
  | .sbci d k => .sbci d k
  | .sbiw d k => .sbiw d k
  | .and d r => .and d r
  | .andi d k => .andi d k
  | .or d r => .or d r
  | .ori d k => .ori d k
  | .eor d r => .eor d r
  | .com d => .com d
  | .neg d => .neg d
  | .inc d => .inc d
  | .dec d => .dec d
  | .mul d r => .mul d r
  | .muls d r => .muls d r
  | .mulsu d r => .mulsu d r
  | .fmul d r => .fmul d r
  | .fmuls d r => .fmuls d r
  | .fmulsu d r => .fmulsu d r
  | .des k => .des k
  | .rjmp k => .rjmp k
  | .ijmp => .ijmp
  | .eijmp => .eijmp
  | .jmp k => .jmp k
  | .rcall k => .rcall k
  | .icall => .icall
  | .eicall => .eicall
  | .call k => .call k
  | .ret => .ret
  | .reti => .reti
  | .cpse d r => .cpse d r
  | .cp d r => .cp d r
  | .cpc d r => .cpc d r
  | .cpi d k => .cpi d k
  | .sbrc r b => .sbrc r b
  | .sbrs r b => .sbrs r b
  | .sbic a b => .sbic a b
  | .sbis a b => .sbis a b
  | .brbs f k => .brbs f k
  | .brbc f k => .brbc f k
  | .mov d r => .mov d r
  | .movw d r => .movw d r
  | .ldi d k => .ldi d k
  | .lds d k => .lds d k
  | .ldsRc d k => .ldsRc d k
  | .ldX d => .ldX d
  | .ldXInc d => .ldXInc d
  | .ldXDec d => .ldXDec d
  | .ldY d => .ldY d
  | .ldYInc d => .ldYInc d
  | .ldYDec d => .ldYDec d
  | .lddY d q => .lddY d q
  | .ldZ d => .ldZ d
  | .ldZInc d => .ldZInc d
  | .ldZDec d => .ldZDec d
  | .lddZ d q => .lddZ d q
  | .sts k r => .sts k r
  | .stsRc k r => .stsRc k r
  | .stX r => .stX r
  | .stXInc r => .stXInc r
  | .stXDec r => .stXDec r
  | .stY r => .stY r
  | .stYInc r => .stYInc r
  | .stYDec r => .stYDec r
  | .stdY q r => .stdY q r
  | .stZ r => .stZ r
  | .stZInc r => .stZInc r
  | .stZDec r => .stZDec r
  | .stdZ q r => .stdZ q r
  | .lpmR0 => .lpmR0
  | .lpmZ d => .lpmZ d
  | .lpmZInc d => .lpmZInc d
  | .elpmR0 => .elpmR0
  | .elpmZ d => .elpmZ d
  | .elpmZInc d => .elpmZInc d
  | .spm => .spm
  | .spmZInc => .spmZInc
  | .inIo d a => .inIo d a
  | .out a r => .out a r
  | .push r => .push r
  | .pop d => .pop d
  | .xch d => .xch d
  | .las d => .las d
  | .lac d => .lac d
  | .lat d => .lat d
  | .lsr d => .lsr d
  | .ror d => .ror d
  | .asr d => .asr d
  | .swap d => .swap d
  | .sbi a b => .sbi a b
  | .cbi a b => .cbi a b
  | .bst r b => .bst r b
  | .bld d b => .bld d b
  | .bset f => .bset f
  | .bclr f => .bclr f
  | .brk => .brk
  | .nop => .nop
  | .sleep => .sleep
  | .wdr => .wdr

end Sys2Proof
end

