-- ==== Sys2Proof/Decode.lean ====
section
/-! DEFINITION. Instruction words (30_encoding): their length, the decoder, the encoder, and which instructions a core and a
device have (00_scope R4). The decoder is total: what it does not read it rejects by name. -/

namespace Sys2Proof

/-- Why a word is no instruction. -/
inductive Reject
  /-- The first word matches no row (30_encoding R120, R118). -/
  | reservedWord (w : Word)
  /-- On AVRrc, a five-bit register field names R0 to R15 (30_encoding R119). -/
  | lowRegister (w : Word)
  /-- The bytes end before the instruction does. -/
  | truncated
  deriving DecidableEq, Repr

/-- Len(w0), 30_encoding R101: the length in words, from the first word alone. -/
def instrLen (core : Core) (w : Word) : Nat :=
  if core = .avrrc then 1
  else if w &&& 0xFE0F#16 = 0x9000#16 then 2
  else if w &&& 0xFE0F#16 = 0x9200#16 then 2
  else if w &&& 0xFE0C#16 = 0x940C#16 then 2
  else 1

/-! ### Fields (30_encoding R104 to R106) -/

/-- A four-bit field of the immediate class: R[16 + n]. -/
def regUpper (n : BitVec 4) : Reg := ⟨16 + n.toNat, by have := n.isLt; omega⟩

/-- A three-bit field: R[16 + n]. -/
def regMul (n : BitVec 3) : Reg := ⟨16 + n.toNat, by have := n.isLt; omega⟩

/-- The pair field of ADIW and SBIW: the low register 24 + 2 n. -/
def regUpperPair (n : BitVec 2) : Reg := ⟨24 + 2 * n.toNat, by have := n.isLt; omega⟩

/-- The pair field of MOVW: the low register 2 n. -/
def regPair (n : BitVec 4) : Reg := ⟨2 * n.toNat, by have := n.isLt; omega⟩

/-- `ddddd`, bits 8..4 (also `rrrrr` of a store, OUT, PUSH, BST, SBRC, SBRS). -/
def fieldD5 (w : Word) : Reg := (w.extractLsb' 4 5).toFin

/-- `rrrrr`, bit 9 and bits 3..0. -/
def fieldR5 (w : Word) : Reg := (w.extractLsb' 9 1 ++ w.extractLsb' 0 4 : BitVec 5).toFin

/-- `dddd` of the immediate class, bits 7..4. -/
def fieldD4 (w : Word) : Reg := regUpper (w.extractLsb' 4 4)

/-- `KKKKKKKK`, bits 11..8 and 3..0. -/
def fieldK8 (w : Word) : BitVec 8 := w.extractLsb' 8 4 ++ w.extractLsb' 0 4

/-- `KKKKKK`, bits 7..6 and 3..0. -/
def fieldK6 (w : Word) : BitVec 6 := w.extractLsb' 6 2 ++ w.extractLsb' 0 4

/-- `dd` of ADIW and SBIW, bits 5..4. -/
def fieldDp (w : Word) : Reg := regUpperPair (w.extractLsb' 4 2)

/-- `qqqqqq`, bit 13, bits 11..10, bits 2..0. -/
def fieldQ (w : Word) : BitVec 6 := w.extractLsb' 13 1 ++ w.extractLsb' 10 2 ++ w.extractLsb' 0 3

/-- `AAAAAA`, bits 10..9 and 3..0. -/
def fieldA6 (w : Word) : BitVec 6 := w.extractLsb' 9 2 ++ w.extractLsb' 0 4

/-- `AAAAA`, bits 7..3. -/
def fieldA5 (w : Word) : BitVec 5 := w.extractLsb' 3 5

/-- `bbb` (and `sss` of BRBS and BRBC), bits 2..0. -/
def fieldB3 (w : Word) : BitVec 3 := w.extractLsb' 0 3

/-- `kkkkkkk` of a branch, bits 9..3. -/
def fieldK7 (w : Word) : BitVec 7 := w.extractLsb' 3 7

/-- `kkkkkkkkkkkk` of RJMP and RCALL, bits 11..0. -/
def fieldK12 (w : Word) : BitVec 12 := w.extractLsb' 0 12

/-- k of JMP and CALL, `w0[8:4] : w0[0] : w1` (30_encoding R103). -/
def fieldK22 (w w1 : Word) : BitVec 22 := w.extractLsb' 4 5 ++ w.extractLsb' 0 1 ++ w1

/-- The data address of the one-word LDS and STS, 42_data_transfer R266: `a[7] = ¬w[8]; a[6] = w[8]; a[5] = w[10];
a[4] = w[9]; a[3:0] = w[3:0]`. -/
def fieldRcAddr (w : Word) : BitVec 8 :=
  ~~~(w.extractLsb' 8 1) ++ w.extractLsb' 8 1 ++ w.extractLsb' 10 1 ++ w.extractLsb' 9 1 ++ w.extractLsb' 0 4

/-! ### The decoder (30_encoding R109 to R111, R125) -/

/-- `0000 …`: NOP, MOVW, MULS, MULSU and the fractional multiplies, CPC, SBC, ADD. -/
def decode0 (w : Word) : Except Reject Instr :=
  match (w.extractLsb' 8 4).toNat with
  | 0 => if w = 0#16 then .ok .nop else .error (.reservedWord w)
  | 1 => .ok (.movw (regPair (w.extractLsb' 4 4)) (regPair (w.extractLsb' 0 4)))
  | 2 => .ok (.muls (regUpper (w.extractLsb' 4 4)) (regUpper (w.extractLsb' 0 4)))
  | 3 =>
    let d := regMul (w.extractLsb' 4 3)
    let r := regMul (w.extractLsb' 0 3)
    match w.getLsbD 7, w.getLsbD 3 with
    | false, false => .ok (.mulsu d r)
    | false, true => .ok (.fmul d r)
    | true, false => .ok (.fmuls d r)
    | true, true => .ok (.fmulsu d r)
  | n =>
    if n < 8 then .ok (.cpc (fieldD5 w) (fieldR5 w))
    else if n < 12 then .ok (.sbc (fieldD5 w) (fieldR5 w))
    else .ok (.add (fieldD5 w) (fieldR5 w))

/-- `0001 …`: CPSE, CP, SUB, ADC. -/
def decode1 (w : Word) : Except Reject Instr :=
  match (w.extractLsb' 10 2).toNat with
  | 0 => .ok (.cpse (fieldD5 w) (fieldR5 w))
  | 1 => .ok (.cp (fieldD5 w) (fieldR5 w))
  | 2 => .ok (.sub (fieldD5 w) (fieldR5 w))
  | _ => .ok (.adc (fieldD5 w) (fieldR5 w))

/-- `0010 …`: AND, EOR, OR, MOV. -/
def decode2 (w : Word) : Except Reject Instr :=
  match (w.extractLsb' 10 2).toNat with
  | 0 => .ok (.and (fieldD5 w) (fieldR5 w))
  | 1 => .ok (.eor (fieldD5 w) (fieldR5 w))
  | 2 => .ok (.or (fieldD5 w) (fieldR5 w))
  | _ => .ok (.mov (fieldD5 w) (fieldR5 w))

/-- `10q0 …`: LDD and STD, and with q = 0 the plain LD and ST through Y and Z (30_encoding R117). -/
def decodeDisp (w : Word) : Except Reject Instr :=
  let q := fieldQ w
  let r := fieldD5 w
  match w.getLsbD 9, w.getLsbD 3 with
  | false, false => .ok (if q = 0#6 then .ldZ r else .lddZ r q)
  | false, true => .ok (if q = 0#6 then .ldY r else .lddY r q)
  | true, false => .ok (if q = 0#6 then .stZ r else .stdZ q r)
  | true, true => .ok (if q = 0#6 then .stY r else .stdY q r)

/-- `1001 000d dddd nnnn` (30_encoding R110, s = 0). -/
def decodeLoad (w w1 : Word) : Except Reject Instr :=
  let d := fieldD5 w
  match (w.extractLsb' 0 4).toNat with
  | 0 => .ok (.lds d w1)
  | 1 => .ok (.ldZInc d)
  | 2 => .ok (.ldZDec d)
  | 4 => .ok (.lpmZ d)
  | 5 => .ok (.lpmZInc d)
  | 6 => .ok (.elpmZ d)
  | 7 => .ok (.elpmZInc d)
  | 9 => .ok (.ldYInc d)
  | 10 => .ok (.ldYDec d)
  | 12 => .ok (.ldX d)
  | 13 => .ok (.ldXInc d)
  | 14 => .ok (.ldXDec d)
  | 15 => .ok (.pop d)
  | _ => .error (.reservedWord w)

/-- `1001 001r rrrr nnnn` (30_encoding R110, s = 1). -/
def decodeStore (w w1 : Word) : Except Reject Instr :=
  let r := fieldD5 w
  match (w.extractLsb' 0 4).toNat with
  | 0 => .ok (.sts w1 r)
  | 1 => .ok (.stZInc r)
  | 2 => .ok (.stZDec r)
  | 4 => .ok (.xch r)
  | 5 => .ok (.las r)
  | 6 => .ok (.lac r)
  | 7 => .ok (.lat r)
  | 9 => .ok (.stYInc r)
  | 10 => .ok (.stYDec r)
  | 12 => .ok (.stX r)
  | 13 => .ok (.stXInc r)
  | 14 => .ok (.stXDec r)
  | 15 => .ok (.push r)
  | _ => .error (.reservedWord w)

/-- `1001 010x xxxx 1000` (30_encoding R111): BSET, BCLR, and with bit 8 set the instructions without operands. -/
def decodeFlagOrNone (w : Word) : Except Reject Instr :=
  if w.getLsbD 8 then
    match (w.extractLsb' 4 4).toNat with
    | 0 => .ok .ret
    | 1 => .ok .reti
    | 8 => .ok .sleep
    | 9 => .ok .brk
    | 10 => .ok .wdr
    | 12 => .ok .lpmR0
    | 13 => .ok .elpmR0
    | 14 => .ok .spm
    | 15 => .ok .spmZInc
    | _ => .error (.reservedWord w)
  else if w.getLsbD 7 then .ok (.bclr (w.extractLsb' 4 3))
  else .ok (.bset (w.extractLsb' 4 3))

/-- `1001 010x xxxx 1001` (30_encoding R111): the indirect jumps and calls. -/
def decodeIndirect (w : Word) : Except Reject Instr :=
  match (w.extractLsb' 4 5).toNat with
  | 0 => .ok .ijmp
  | 1 => .ok .eijmp
  | 16 => .ok .icall
  | 17 => .ok .eicall
  | _ => .error (.reservedWord w)

/-- `1001 010x xxxx nnnn` (30_encoding R111). -/
def decodeMisc (w w1 : Word) : Except Reject Instr :=
  let d := fieldD5 w
  match (w.extractLsb' 0 4).toNat with
  | 0 => .ok (.com d)
  | 1 => .ok (.neg d)
  | 2 => .ok (.swap d)
  | 3 => .ok (.inc d)
  | 4 => .error (.reservedWord w)
  | 5 => .ok (.asr d)
  | 6 => .ok (.lsr d)
  | 7 => .ok (.ror d)
  | 8 => decodeFlagOrNone w
  | 9 => decodeIndirect w
  | 10 => .ok (.dec d)
  | 11 => if w.getLsbD 8 then .error (.reservedWord w) else .ok (.des (w.extractLsb' 4 4))
  | 12 => .ok (.jmp (fieldK22 w w1))
  | 13 => .ok (.jmp (fieldK22 w w1))
  | _ => .ok (.call (fieldK22 w w1))

/-- `1001 …` (30_encoding R109). -/
def decode9 (w w1 : Word) : Except Reject Instr :=
  match (w.extractLsb' 8 4).toNat with
  | 0 => decodeLoad w w1
  | 1 => decodeLoad w w1
  | 2 => decodeStore w w1
  | 3 => decodeStore w w1
  | 4 => decodeMisc w w1
  | 5 => decodeMisc w w1
  | 6 => .ok (.adiw (fieldDp w) (fieldK6 w))
  | 7 => .ok (.sbiw (fieldDp w) (fieldK6 w))
  | 8 => .ok (.cbi (fieldA5 w) (fieldB3 w))
  | 9 => .ok (.sbic (fieldA5 w) (fieldB3 w))
  | 10 => .ok (.sbi (fieldA5 w) (fieldB3 w))
  | 11 => .ok (.sbis (fieldA5 w) (fieldB3 w))
  | _ => .ok (.mul (fieldD5 w) (fieldR5 w))

/-- `1111 …`: the branches, and with bit 11 set and bit 3 clear BLD, BST, SBRC, SBRS. -/
def decode15 (w : Word) : Except Reject Instr :=
  if w.getLsbD 11 then
    if w.getLsbD 3 then .error (.reservedWord w)
    else
      match (w.extractLsb' 9 2).toNat with
      | 0 => .ok (.bld (fieldD5 w) (fieldB3 w))
      | 1 => .ok (.bst (fieldD5 w) (fieldB3 w))
      | 2 => .ok (.sbrc (fieldD5 w) (fieldB3 w))
      | _ => .ok (.sbrs (fieldD5 w) (fieldB3 w))
  else if w.getLsbD 10 then .ok (.brbc (fieldB3 w) (fieldK7 w))
  else .ok (.brbs (fieldB3 w) (fieldK7 w))

/-- The decoder of the cores other than AVRrc: the opcode map 30_encoding R109. -/
def decodeWord (w w1 : Word) : Except Reject Instr :=
  match (w.extractLsb' 12 4).toNat with
  | 0 => decode0 w
  | 1 => decode1 w
  | 2 => decode2 w
  | 3 => .ok (.cpi (fieldD4 w) (fieldK8 w))
  | 4 => .ok (.sbci (fieldD4 w) (fieldK8 w))
  | 5 => .ok (.subi (fieldD4 w) (fieldK8 w))
  | 6 => .ok (.ori (fieldD4 w) (fieldK8 w))
  | 7 => .ok (.andi (fieldD4 w) (fieldK8 w))
  | 8 => decodeDisp w
  | 9 => decode9 w w1
  | 10 => decodeDisp w
  | 11 => if w.getLsbD 11 then .ok (.out (fieldA6 w) (fieldD5 w)) else .ok (.inIo (fieldD5 w) (fieldA6 w))
  | 12 => .ok (.rjmp (fieldK12 w))
  | 13 => .ok (.rcall (fieldK12 w))
  | 14 => .ok (.ldi (fieldD4 w) (fieldK8 w))
  | _ => decode15 w

/-- `1010 …` on AVRrc: the one-word LDS and STS (30_encoding R118, R125 step 1). -/
def decodeRcDirect (w : Word) : Instr :=
  if w.getLsbD 11 then .stsRc (fieldRcAddr w) (fieldD4 w) else .ldsRc (fieldD4 w) (fieldRcAddr w)

/-! ### Availability (00_scope R4, 30_encoding R121) -/

/-- Every core but AVRrc. -/
def Core.notReduced (core : Core) : Bool := core != .avrrc

/-- AVRrc alone. -/
def Core.onlyReduced (core : Core) : Bool := core == .avrrc

/-- AVRe, AVRe+, AVRxm, AVRxt. -/
def Core.fromAvre (core : Core) : Bool := core != .avrrc && core != .avr

/-- AVRe+, AVRxm, AVRxt. -/
def Core.fromAvrePlus (core : Core) : Bool := core == .avrePlus || core == .avrxm || core == .avrxt

/-- AVRxm alone. -/
def Core.onlyXm (core : Core) : Bool := core == .avrxm

/-- AVRxm and AVRxt. -/
def Core.xmOrXt (core : Core) : Bool := core == .avrxm || core == .avrxt

/-- The cores that have an instruction: the table of 00_scope R4, the `cores` of spec/opcode_table.json. -/
def Core.has (core : Core) : Instr → Bool
  | .add _ _ => true
  | .adc _ _ => true
  | .adiw _ _ => core.notReduced
  | .sub _ _ => true
  | .subi _ _ => true
  | .sbc _ _ => true
  | .sbci _ _ => true
  | .sbiw _ _ => core.notReduced
  | .and _ _ => true
  | .andi _ _ => true
  | .or _ _ => true
  | .ori _ _ => true
  | .eor _ _ => true
  | .com _ => true
  | .neg _ => true
  | .sbr _ _ => true
  | .cbr _ _ => true
  | .inc _ => true
  | .dec _ => true
  | .tst _ => true
  | .clr _ => true
  | .ser _ => true
  | .mul _ _ => core.fromAvrePlus
  | .muls _ _ => core.fromAvrePlus
  | .mulsu _ _ => core.fromAvrePlus
  | .fmul _ _ => core.fromAvrePlus
  | .fmuls _ _ => core.fromAvrePlus
  | .fmulsu _ _ => core.fromAvrePlus
  | .des _ => core.onlyXm
  | .rjmp _ => true
  | .ijmp => true
  | .eijmp => core.fromAvrePlus
  | .jmp _ => core.notReduced
  | .rcall _ => true
  | .icall => true
  | .eicall => core.fromAvrePlus
  | .call _ => core.notReduced
  | .ret => true
  | .reti => true
  | .cpse _ _ => true
  | .cp _ _ => true
  | .cpc _ _ => true
  | .cpi _ _ => true
  | .sbrc _ _ => true
  | .sbrs _ _ => true
  | .sbic _ _ => true
  | .sbis _ _ => true
  | .brbs _ _ => true
  | .brbc _ _ => true
  | .breq _ => true
  | .brne _ => true
  | .brcs _ => true
  | .brcc _ => true
  | .brsh _ => true
  | .brlo _ => true
  | .brmi _ => true
  | .brpl _ => true
  | .brge _ => true
  | .brlt _ => true
  | .brhs _ => true
  | .brhc _ => true
  | .brts _ => true
  | .brtc _ => true
  | .brvs _ => true
  | .brvc _ => true
  | .brie _ => true
  | .brid _ => true
  | .mov _ _ => true
  | .movw _ _ => core.fromAvre
  | .ldi _ _ => true
  | .lds _ _ => core.notReduced
  | .ldsRc _ _ => core.onlyReduced
  | .ldX _ => true
  | .ldXInc _ => true
  | .ldXDec _ => true
  | .ldY _ => true
  | .ldYInc _ => true
  | .ldYDec _ => true
  | .lddY _ _ => core.notReduced
  | .ldZ _ => true
  | .ldZInc _ => true
  | .ldZDec _ => true
  | .lddZ _ _ => core.notReduced
  | .sts _ _ => core.notReduced
  | .stsRc _ _ => core.onlyReduced
  | .stX _ => true
  | .stXInc _ => true
  | .stXDec _ => true
  | .stY _ => true
  | .stYInc _ => true
  | .stYDec _ => true
  | .stdY _ _ => core.notReduced
  | .stZ _ => true
  | .stZInc _ => true
  | .stZDec _ => true
  | .stdZ _ _ => core.notReduced
  | .lpmR0 => core.notReduced
  | .lpmZ _ => core.fromAvre
  | .lpmZInc _ => core.fromAvre
  | .elpmR0 => core.fromAvrePlus
  | .elpmZ _ => core.fromAvrePlus
  | .elpmZInc _ => core.fromAvrePlus
  | .spm => core.notReduced
  | .spmZInc => core.xmOrXt
  | .inIo _ _ => true
  | .out _ _ => true
  | .push _ => true
  | .pop _ => true
  | .xch _ => core.onlyXm
  | .las _ => core.onlyXm
  | .lac _ => core.onlyXm
  | .lat _ => core.onlyXm
  | .lsl _ => true
  | .lsr _ => true
  | .rol _ => true
  | .ror _ => true
  | .asr _ => true
  | .swap _ => true
  | .sbi _ _ => true
  | .cbi _ _ => true
  | .bst _ _ => true
  | .bld _ _ => true
  | .bset _ => true
  | .bclr _ => true
  | .sec => true
  | .clc => true
  | .sen => true
  | .cln => true
  | .sez => true
  | .clz => true
  | .sei => true
  | .cli => true
  | .ses => true
  | .cls => true
  | .sev => true
  | .clv => true
  | .set => true
  | .clt => true
  | .seh => true
  | .clh => true
  | .brk => true
  | .nop => true
  | .sleep => true
  | .wdr => true

/-- AVR, AVRe and AVRe+. -/
def Core.beforeXm (core : Core) : Bool := core == .avr || core == .avre || core == .avrePlus

/-- The cores on which particular devices lack what their core has: the cells of 00_scope R4 marked "(device)"; BREAK on
every core (44_mcu R390); PUSH and POP on the AVR core (42_data_transfer R301). Elsewhere the cell is a plain yes. -/
def Core.mayLack (core : Core) : DeviceOption → Bool
  | .adiw => core.beforeXm
  | .sbiw => core.beforeXm
  | .jmp => core.beforeXm || core == .avrxt
  | .call => core.beforeXm || core == .avrxt
  | .lpm => core == .avr
  | .spm => core.beforeXm
  | .brk => true
  | .push => core == .avr
  | .pop => core == .avr

/-- The device lacks it: Avail says so (00_scope R8), on a core whose devices may. -/
def Config.deviceLacks (c : Config) (o : DeviceOption) : Bool := c.core.mayLack o && c.lacks.contains o

/-- The device can jump to the whole of a program space of more than 64K words: PC_BITS = 22 (00_scope R4) and EIND
(41_change_of_flow R204; log 31). -/
def Config.extendedJumps (c : Config) : Bool := c.pcBits == 22 && c.hasEind

/-- What a device must have beside the core: the extended jumps for EIJMP and EICALL, RAMPZ for ELPM (00_scope R4), and none
of the lacks of Avail. -/
def Config.deviceHas (c : Config) : Instr → Bool
  | .add _ _ => true
  | .adc _ _ => true
  | .adiw _ _ => !c.deviceLacks .adiw
  | .sub _ _ => true
  | .subi _ _ => true
  | .sbc _ _ => true
  | .sbci _ _ => true
  | .sbiw _ _ => !c.deviceLacks .sbiw
  | .and _ _ => true
  | .andi _ _ => true
  | .or _ _ => true
  | .ori _ _ => true
  | .eor _ _ => true
  | .com _ => true
  | .neg _ => true
  | .sbr _ _ => true
  | .cbr _ _ => true
  | .inc _ => true
  | .dec _ => true
  | .tst _ => true
  | .clr _ => true
  | .ser _ => true
  | .mul _ _ => true
  | .muls _ _ => true
  | .mulsu _ _ => true
  | .fmul _ _ => true
  | .fmuls _ _ => true
  | .fmulsu _ _ => true
  | .des _ => true
  | .rjmp _ => true
  | .ijmp => true
  | .eijmp => c.extendedJumps
  | .jmp _ => !c.deviceLacks .jmp
  | .rcall _ => true
  | .icall => true
  | .eicall => c.extendedJumps
  | .call _ => !c.deviceLacks .call
  | .ret => true
  | .reti => true
  | .cpse _ _ => true
  | .cp _ _ => true
  | .cpc _ _ => true
  | .cpi _ _ => true
  | .sbrc _ _ => true
  | .sbrs _ _ => true
  | .sbic _ _ => true
  | .sbis _ _ => true
  | .brbs _ _ => true
  | .brbc _ _ => true
  | .breq _ => true
  | .brne _ => true
  | .brcs _ => true
  | .brcc _ => true
  | .brsh _ => true
  | .brlo _ => true
  | .brmi _ => true
  | .brpl _ => true
  | .brge _ => true
  | .brlt _ => true
  | .brhs _ => true
  | .brhc _ => true
  | .brts _ => true
  | .brtc _ => true
  | .brvs _ => true
  | .brvc _ => true
  | .brie _ => true
  | .brid _ => true
  | .mov _ _ => true
  | .movw _ _ => true
  | .ldi _ _ => true
  | .lds _ _ => true
  | .ldsRc _ _ => true
  | .ldX _ => true
  | .ldXInc _ => true
  | .ldXDec _ => true
  | .ldY _ => true
  | .ldYInc _ => true
  | .ldYDec _ => true
  | .lddY _ _ => true
  | .ldZ _ => true
  | .ldZInc _ => true
  | .ldZDec _ => true
  | .lddZ _ _ => true
  | .sts _ _ => true
  | .stsRc _ _ => true
  | .stX _ => true
  | .stXInc _ => true
  | .stXDec _ => true
  | .stY _ => true
  | .stYInc _ => true
  | .stYDec _ => true
  | .stdY _ _ => true
  | .stZ _ => true
  | .stZInc _ => true
  | .stZDec _ => true
  | .stdZ _ _ => true
  | .lpmR0 => !c.deviceLacks .lpm
  | .lpmZ _ => true
  | .lpmZInc _ => true
  | .elpmR0 => c.hasRampz
  | .elpmZ _ => c.hasRampz
  | .elpmZInc _ => c.hasRampz
  | .spm => !c.deviceLacks .spm
  | .spmZInc => !c.deviceLacks .spm
  | .inIo _ _ => true
  | .out _ _ => true
  | .push _ => !c.deviceLacks .push
  | .pop _ => !c.deviceLacks .pop
  | .xch _ => true
  | .las _ => true
  | .lac _ => true
  | .lat _ => true
  | .lsl _ => true
  | .lsr _ => true
  | .rol _ => true
  | .ror _ => true
  | .asr _ => true
  | .swap _ => true
  | .sbi _ _ => true
  | .cbi _ _ => true
  | .bst _ _ => true
  | .bld _ _ => true
  | .bset _ => true
  | .bclr _ => true
  | .sec => true
  | .clc => true
  | .sen => true
  | .cln => true
  | .sez => true
  | .clz => true
  | .sei => true
  | .cli => true
  | .ses => true
  | .cls => true
  | .sev => true
  | .clv => true
  | .set => true
  | .clt => true
  | .seh => true
  | .clh => true
  | .brk => !c.deviceLacks .brk
  | .nop => true
  | .sleep => true
  | .wdr => true

/-- The instruction is available on the configured core and device (00_scope R4); otherwise executing it is
Fault(NotAvailable) (30_encoding R121). -/
def Config.available (c : Config) (i : Instr) : Bool := c.core.has i && c.deviceHas i

/-! ### The decoder with its core (30_encoding R125) -/

/-- The decoder. On AVRrc the words `1010 …` are the one-word LDS and STS, the other words of `10x0 …` with a q bit set
are reserved (R118), and a five-bit field that names R0 to R15 is reserved (R119); an instruction that AVRrc has not
is answered as it is, for the availability check to stop (log 23). -/
def decode (core : Core) (w w1 : Word) : Except Reject Instr :=
  if core = .avrrc then
    if (w.extractLsb' 12 4).toNat = 10 then .ok (decodeRcDirect w)
    else if (w.extractLsb' 12 4).toNat = 8 ∧ fieldQ w ≠ 0#6 then .error (.reservedWord w)
    else
      match decodeWord w w1 with
      | .error e => .error e
      | .ok i => if Core.avrrc.has i && !i.namesUpperOnly then .error (.lowRegister w) else .ok i
  else decodeWord w w1

/-- The decoder on bytes: each word low byte first, the first word at the lowest address (20_memory R62); answers the
instruction and the bytes after it. -/
def decodeBytes (core : Core) : List Byte → Except Reject (Instr × List Byte)
  | lo :: hi :: rest =>
    if instrLen core (hi ++ lo) = 2 then
      match rest with
      | lo1 :: hi1 :: rest1 =>
        match decode core (hi ++ lo) (hi1 ++ lo1) with
        | .ok i => .ok (i, rest1)
        | .error e => .error e
      | _ => .error .truncated
    else
      match decode core (hi ++ lo) 0#16 with
      | .ok i => .ok (i, rest)
      | .error e => .error e
  | _ => .error .truncated

/-- The four bytes of an instruction numbered as spec/opcode_table.json numbers its bits, those above `nbits` zero. -/
def tableBytes (nbits w : Nat) : List Byte :=
  let x := BitVec.ofNat 32 (w % 2 ^ nbits)
  [x.extractLsb' 0 8, x.extractLsb' 8 8, x.extractLsb' 16 8, x.extractLsb' 24 8]

/-- The instruction that the AVR128DA64's decoder (CORE = AVRxt) reads from those bytes (log 10). -/
def decodeTableWord (nbits w : Nat) : Option Instr :=
  match decodeBytes .avrxt (tableBytes nbits w) with
  | .ok (i, _) => some i
  | .error _ => none

/-! ### The encoder -/

/-- Format `RdRr`: `oooo oord dddd rrrr`. -/
def encRdRr (op : BitVec 6) (d r : Reg) : Word :=
  let rb : BitVec 5 := BitVec.ofFin r
  op ++ rb.extractLsb' 4 1 ++ (BitVec.ofFin d : BitVec 5) ++ rb.extractLsb' 0 4

/-- Format `RdK8`: `oooo KKKK dddd KKKK`; the register field is d - 16. -/
def encRdK8 (op : BitVec 4) (d : Reg) (k : BitVec 8) : Word :=
  op ++ k.extractLsb' 4 4 ++ BitVec.ofNat 4 d.val ++ k.extractLsb' 0 4

/-- Format `RdpK6`: `oooo oooo KKdd KKKK`; the pair field is (d - 24) / 2. -/
def encRdpK6 (op : BitVec 8) (d : Reg) (k : BitVec 6) : Word :=
  op ++ k.extractLsb' 4 2 ++ BitVec.ofNat 2 (d.val / 2) ++ k.extractLsb' 0 4

/-- Format `Rd`: `oooo oood dddd oooo`. -/
def encRd (op : BitVec 7) (d : Reg) (lo : BitVec 4) : Word :=
  op ++ (BitVec.ofFin d : BitVec 5) ++ lo

/-- Formats `Rd4Rr4` and `RdpRrp`: an eight-bit opcode and two four-bit fields. -/
def encTwoNibbles (op : BitVec 8) (d r : BitVec 4) : Word := op ++ d ++ r

/-- Format `Rd3Rr3`: `0000 0011 oddd orrr`. -/
def encRd3Rr3 (o1 o0 : BitVec 1) (d r : Reg) : Word :=
  0x03#8 ++ o1 ++ BitVec.ofNat 3 d.val ++ o0 ++ BitVec.ofNat 3 r.val

/-- Format `k7s`: `1111 0okk kkkk ksss`. -/
def encBranch (op : BitVec 6) (f : BitVec 3) (k : BitVec 7) : Word := op ++ k ++ f

/-- Format `Rrb`: `1111 1ood dddd 0bbb`. -/
def encRegBit (op : BitVec 7) (r : Reg) (b : BitVec 3) : Word :=
  op ++ (BitVec.ofFin r : BitVec 5) ++ 0#1 ++ b

/-- Format `A5b`: `1001 10oo AAAA Abbb`. -/
def encIoBit (op : BitVec 8) (a : BitVec 5) (b : BitVec 3) : Word := op ++ a ++ b

/-- Format `RdA6`: `1011 oAAd dddd AAAA`. -/
def encIo (op : BitVec 5) (d : Reg) (a : BitVec 6) : Word :=
  op ++ a.extractLsb' 4 2 ++ (BitVec.ofFin d : BitVec 5) ++ a.extractLsb' 0 4

/-- Format `Rdq6`: `10q0 qqod dddd oqqq`. -/
def encDisp (st y : BitVec 1) (d : Reg) (q : BitVec 6) : Word :=
  0b10#2 ++ q.extractLsb' 5 1 ++ 0#1 ++ q.extractLsb' 3 2 ++ st ++ (BitVec.ofFin d : BitVec 5) ++ y ++
    q.extractLsb' 0 3

/-- Format `Rd4k7`: `1010 okkk dddd kkkk`, k from the data address (30_encoding R106: bits 10..8 and 3..0;
42_data_transfer R266 inverted). -/
def encRc (o : BitVec 1) (d : Reg) (a : BitVec 8) : Word :=
  0b1010#4 ++ o ++ a.extractLsb' 5 1 ++ a.extractLsb' 4 1 ++ a.extractLsb' 6 1 ++ BitVec.ofNat 4 d.val ++
    a.extractLsb' 0 4

/-- First word of format `k22`: `1001 010k kkkk ooo k`. -/
def encFar (op : BitVec 3) (k : BitVec 22) : Word :=
  0b1001010#7 ++ k.extractLsb' 17 5 ++ op ++ k.extractLsb' 16 1

/-- Format `s3`: `1001 0100 osss 1000`. -/
def encFlag (o : BitVec 1) (f : BitVec 3) : Word := 0x94#8 ++ o ++ f ++ 0x8#4

/-- The first word of an instruction; of an alias, its own pattern (30_encoding R115). -/
def encodeFirst : Instr → Word
  | .add d r => encRdRr 0b000011#6 d r
  | .adc d r => encRdRr 0b000111#6 d r
  | .adiw d k => encRdpK6 0b10010110#8 d k
  | .sub d r => encRdRr 0b000110#6 d r
  | .subi d k => encRdK8 0b0101#4 d k
  | .sbc d r => encRdRr 0b000010#6 d r
  | .sbci d k => encRdK8 0b0100#4 d k
  | .sbiw d k => encRdpK6 0b10010111#8 d k
  | .and d r => encRdRr 0b001000#6 d r
  | .andi d k => encRdK8 0b0111#4 d k
  | .or d r => encRdRr 0b001010#6 d r
  | .ori d k => encRdK8 0b0110#4 d k
  | .eor d r => encRdRr 0b001001#6 d r
  | .com d => encRd 0b1001010#7 d 0b0000#4
  | .neg d => encRd 0b1001010#7 d 0b0001#4
  | .sbr d k => encRdK8 0b0110#4 d k
  | .cbr d k => encRdK8 0b0111#4 d (255#8 - k)
  | .inc d => encRd 0b1001010#7 d 0b0011#4
  | .dec d => encRd 0b1001010#7 d 0b1010#4
  | .tst d => encRdRr 0b001000#6 d d
  | .clr d => encRdRr 0b001001#6 d d
  | .ser d => encRdK8 0b1110#4 d 0xFF#8
  | .mul d r => encRdRr 0b100111#6 d r
  | .muls d r => encTwoNibbles 0x02#8 (BitVec.ofNat 4 d.val) (BitVec.ofNat 4 r.val)
  | .mulsu d r => encRd3Rr3 0#1 0#1 d r
  | .fmul d r => encRd3Rr3 0#1 1#1 d r
  | .fmuls d r => encRd3Rr3 1#1 0#1 d r
  | .fmulsu d r => encRd3Rr3 1#1 1#1 d r
  | .des k => 0x94#8 ++ k ++ 0xB#4
  | .rjmp k => 0b1100#4 ++ k
  | .ijmp => 0x9409#16
  | .eijmp => 0x9419#16
  | .jmp k => encFar 0b110#3 k
  | .rcall k => 0b1101#4 ++ k
  | .icall => 0x9509#16
  | .eicall => 0x9519#16
  | .call k => encFar 0b111#3 k
  | .ret => 0x9508#16
  | .reti => 0x9518#16
  | .cpse d r => encRdRr 0b000100#6 d r
  | .cp d r => encRdRr 0b000101#6 d r
  | .cpc d r => encRdRr 0b000001#6 d r
  | .cpi d k => encRdK8 0b0011#4 d k
  | .sbrc r b => encRegBit 0b1111110#7 r b
  | .sbrs r b => encRegBit 0b1111111#7 r b
  | .sbic a b => encIoBit 0b10011001#8 a b
  | .sbis a b => encIoBit 0b10011011#8 a b
  | .brbs f k => encBranch 0b111100#6 f k
  | .brbc f k => encBranch 0b111101#6 f k
  | .breq k => encBranch 0b111100#6 0b001#3 k
  | .brne k => encBranch 0b111101#6 0b001#3 k
  | .brcs k => encBranch 0b111100#6 0b000#3 k
  | .brcc k => encBranch 0b111101#6 0b000#3 k
  | .brsh k => encBranch 0b111101#6 0b000#3 k
  | .brlo k => encBranch 0b111100#6 0b000#3 k
  | .brmi k => encBranch 0b111100#6 0b010#3 k
  | .brpl k => encBranch 0b111101#6 0b010#3 k
  | .brge k => encBranch 0b111101#6 0b100#3 k
  | .brlt k => encBranch 0b111100#6 0b100#3 k
  | .brhs k => encBranch 0b111100#6 0b101#3 k
  | .brhc k => encBranch 0b111101#6 0b101#3 k
  | .brts k => encBranch 0b111100#6 0b110#3 k
  | .brtc k => encBranch 0b111101#6 0b110#3 k
  | .brvs k => encBranch 0b111100#6 0b011#3 k
  | .brvc k => encBranch 0b111101#6 0b011#3 k
  | .brie k => encBranch 0b111100#6 0b111#3 k
  | .brid k => encBranch 0b111101#6 0b111#3 k
  | .mov d r => encRdRr 0b001011#6 d r
  | .movw d r => encTwoNibbles 0x01#8 (BitVec.ofNat 4 (d.val / 2)) (BitVec.ofNat 4 (r.val / 2))
  | .ldi d k => encRdK8 0b1110#4 d k
  | .lds d _ => encRd 0b1001000#7 d 0b0000#4
  | .ldsRc d k => encRc 0#1 d k
  | .ldX d => encRd 0b1001000#7 d 0b1100#4
  | .ldXInc d => encRd 0b1001000#7 d 0b1101#4
  | .ldXDec d => encRd 0b1001000#7 d 0b1110#4
  | .ldY d => encRd 0b1000000#7 d 0b1000#4
  | .ldYInc d => encRd 0b1001000#7 d 0b1001#4
  | .ldYDec d => encRd 0b1001000#7 d 0b1010#4
  | .lddY d q => encDisp 0#1 1#1 d q
  | .ldZ d => encRd 0b1000000#7 d 0b0000#4
  | .ldZInc d => encRd 0b1001000#7 d 0b0001#4
  | .ldZDec d => encRd 0b1001000#7 d 0b0010#4
  | .lddZ d q => encDisp 0#1 0#1 d q
  | .sts _ r => encRd 0b1001001#7 r 0b0000#4
  | .stsRc k r => encRc 1#1 r k
  | .stX r => encRd 0b1001001#7 r 0b1100#4
  | .stXInc r => encRd 0b1001001#7 r 0b1101#4
  | .stXDec r => encRd 0b1001001#7 r 0b1110#4
  | .stY r => encRd 0b1000001#7 r 0b1000#4
  | .stYInc r => encRd 0b1001001#7 r 0b1001#4
  | .stYDec r => encRd 0b1001001#7 r 0b1010#4
  | .stdY q r => encDisp 1#1 1#1 r q
  | .stZ r => encRd 0b1000001#7 r 0b0000#4
  | .stZInc r => encRd 0b1001001#7 r 0b0001#4
  | .stZDec r => encRd 0b1001001#7 r 0b0010#4
  | .stdZ q r => encDisp 1#1 0#1 r q
  | .lpmR0 => 0x95C8#16
  | .lpmZ d => encRd 0b1001000#7 d 0b0100#4
  | .lpmZInc d => encRd 0b1001000#7 d 0b0101#4
  | .elpmR0 => 0x95D8#16
  | .elpmZ d => encRd 0b1001000#7 d 0b0110#4
  | .elpmZInc d => encRd 0b1001000#7 d 0b0111#4
  | .spm => 0x95E8#16
  | .spmZInc => 0x95F8#16
  | .inIo d a => encIo 0b10110#5 d a
  | .out a r => encIo 0b10111#5 r a
  | .push r => encRd 0b1001001#7 r 0b1111#4
  | .pop d => encRd 0b1001000#7 d 0b1111#4
  | .xch d => encRd 0b1001001#7 d 0b0100#4
  | .las d => encRd 0b1001001#7 d 0b0101#4
  | .lac d => encRd 0b1001001#7 d 0b0110#4
  | .lat d => encRd 0b1001001#7 d 0b0111#4
  | .lsl d => encRdRr 0b000011#6 d d
  | .lsr d => encRd 0b1001010#7 d 0b0110#4
  | .rol d => encRdRr 0b000111#6 d d
  | .ror d => encRd 0b1001010#7 d 0b0111#4
  | .asr d => encRd 0b1001010#7 d 0b0101#4
  | .swap d => encRd 0b1001010#7 d 0b0010#4
  | .sbi a b => encIoBit 0b10011010#8 a b
  | .cbi a b => encIoBit 0b10011000#8 a b
  | .bst r b => encRegBit 0b1111101#7 r b
  | .bld d b => encRegBit 0b1111100#7 d b
  | .bset f => encFlag 0#1 f
  | .bclr f => encFlag 1#1 f
  | .sec => 0x9408#16
  | .clc => 0x9488#16
  | .sen => 0x9428#16
  | .cln => 0x94A8#16
  | .sez => 0x9418#16
  | .clz => 0x9498#16
  | .sei => 0x9478#16
  | .cli => 0x94F8#16
  | .ses => 0x9448#16
  | .cls => 0x94C8#16
  | .sev => 0x9438#16
  | .clv => 0x94B8#16
  | .set => 0x9468#16
  | .clt => 0x94E8#16
  | .seh => 0x9458#16
  | .clh => 0x94D8#16
  | .brk => 0x9598#16
  | .nop => 0x0000#16
  | .sleep => 0x9588#16
  | .wdr => 0x95A8#16

/-- The words of an instruction, the first at the lowest address (30_encoding R103). -/
def encode (i : Instr) : List Word :=
  match i with
  | .jmp k => [encodeFirst i, k.extractLsb' 0 16]
  | .call k => [encodeFirst i, k.extractLsb' 0 16]
  | .lds _ k => [encodeFirst i, k]
  | .sts k _ => [encodeFirst i, k]
  | _ => [encodeFirst i]

/-- The bytes of an instruction in program space (20_memory R62). -/
def encodeBytes (i : Instr) : List Byte :=
  (encode i).flatMap fun w => [w.extractLsb' 0 8, w.extractLsb' 8 8]

end Sys2Proof
end

