-- ==== Sys2Proof/Machine/Flags.lean ====
section
/-! DEFINITION. The status register's bits (10_state R26) and every flag computation of the spec (40_arithmetic_logic R140
to R142 and the flag lines of R147 to R172, 43_bit R339). Each computation answers a result and the flags; which of them an
instruction writes is said by the writers at the end (10_state R28). -/

namespace Sys2Proof.Machine

/-! ### SREG -/

def flagC (sr : Byte) : Bool := sr.getLsbD 0
def flagZ (sr : Byte) : Bool := sr.getLsbD 1
def flagN (sr : Byte) : Bool := sr.getLsbD 2
def flagV (sr : Byte) : Bool := sr.getLsbD 3
def flagS (sr : Byte) : Bool := sr.getLsbD 4
def flagH (sr : Byte) : Bool := sr.getLsbD 5
def flagT (sr : Byte) : Bool := sr.getLsbD 6
def flagI (sr : Byte) : Bool := sr.getLsbD 7

/-- SREG from its flags, I in bit 7 to C in bit 0 (10_state R26). -/
def sregOf (i t h s v n z c : Bool) : Byte :=
  BitVec.ofBool i ++ BitVec.ofBool t ++ BitVec.ofBool h ++ BitVec.ofBool s ++ BitVec.ofBool v ++ BitVec.ofBool n ++
    BitVec.ofBool z ++ BitVec.ofBool c

/-- A byte with bit `b` set to `x` (BSET, BCLR, BST, BLD, SBI, CBI). -/
def putBit (v : Byte) (b : BitVec 3) (x : Bool) : Byte :=
  if x then v ||| (1#8 <<< b.toNat) else v &&& ~~~(1#8 <<< b.toNat)

/-- Bit `b` of a byte. -/
def getBit (v : Byte) (b : BitVec 3) : Bool := v.getLsbD b.toNat

/-! ### Results with flags -/

/-- A byte result and the flags H, V, N, Z, C that go with it; S is N ⊕ V (10_state R27). -/
structure Alu where
  res : Byte
  h : Bool
  v : Bool
  n : Bool
  z : Bool
  c : Bool
  deriving DecidableEq, Repr

/-- "S (sign): always N ⊕ V, for signed tests" (10_state R27). -/
def Alu.s (f : Alu) : Bool := f.n ^^ f.v

/-- A 16-bit result and its flags (ADIW, SBIW, the multiplies). -/
structure Alu16 where
  res : BitVec 16
  v : Bool
  n : Bool
  z : Bool
  c : Bool
  deriving DecidableEq, Repr

def Alu16.s (f : Alu16) : Bool := f.n ^^ f.v

/-- A flag as a number. -/
def carryIn (c : Bool) : Byte := if c then 1#8 else 0#8

/-- AddFlags8(a, b, cin), 40_arithmetic_logic R140. -/
def addFlags8 (a b : Byte) (cin : Bool) : Alu :=
  let r := a + b + carryIn cin
  let a3 := a.getLsbD 3; let b3 := b.getLsbD 3; let r3 := r.getLsbD 3
  let a7 := a.getLsbD 7; let b7 := b.getLsbD 7; let r7 := r.getLsbD 7
  { res := r
    h := (a3 && b3) || (b3 && !r3) || (!r3 && a3)
    v := (a7 && b7 && !r7) || (!a7 && !b7 && r7)
    n := r7
    z := r == 0#8
    c := (a7 && b7) || (b7 && !r7) || (!r7 && a7) }

/-- SubFlags8(a, b, cin, keepZ), 40_arithmetic_logic R141; `zBefore` is Z before the instruction. -/
def subFlags8 (a b : Byte) (cin keepZ zBefore : Bool) : Alu :=
  let r := a - b - carryIn cin
  let a3 := a.getLsbD 3; let b3 := b.getLsbD 3; let r3 := r.getLsbD 3
  let a7 := a.getLsbD 7; let b7 := b.getLsbD 7; let r7 := r.getLsbD 7
  { res := r
    h := (!a3 && b3) || (b3 && r3) || (r3 && !a3)
    v := (a7 && !b7 && !r7) || (!a7 && b7 && r7)
    n := r7
    z := if keepZ then (r == 0#8) && zBefore else r == 0#8
    c := (!a7 && b7) || (b7 && r7) || (r7 && !a7) }

/-- LogicFlags8(R), 40_arithmetic_logic R142; H and C are not among the flags it writes. -/
def logicFlags8 (r : Byte) : Alu :=
  { res := r, h := false, v := false, n := r.getLsbD 7, z := r == 0#8, c := false }

/-- COM, 40_arithmetic_logic R158. -/
def comFlags (a : Byte) : Alu :=
  let r := 0xFF#8 - a
  { res := r, h := false, v := false, n := r.getLsbD 7, z := r == 0#8, c := true }

/-- NEG, 40_arithmetic_logic R159. -/
def negFlags (a : Byte) : Alu :=
  let r := 0x00#8 - a
  { res := r
    h := r.getLsbD 3 || a.getLsbD 3
    v := r == 0x80#8
    n := r.getLsbD 7
    z := r == 0x00#8
    c := r != 0x00#8 }

/-- INC, 40_arithmetic_logic R162; H and C are not among the flags it writes. -/
def incFlags (a : Byte) : Alu :=
  let r := a + 1#8
  { res := r, h := false, v := r == 0x80#8, n := r.getLsbD 7, z := r == 0#8, c := false }

/-- DEC, 40_arithmetic_logic R163; H and C are not among the flags it writes. -/
def decFlags (a : Byte) : Alu :=
  let r := a - 1#8
  { res := r, h := false, v := r == 0x7F#8, n := r.getLsbD 7, z := r == 0#8, c := false }

/-- Flags of a right shift with result `r` and new carry `c`, 43_bit R339; H is not among the flags it writes. -/
def shiftFlags (r : Byte) (c : Bool) : Alu :=
  let n := r.getLsbD 7
  { res := r, h := false, v := n ^^ c, n := n, z := r == 0#8, c := c }

/-- LSR, 43_bit R341. -/
def lsrFlags (a : Byte) : Alu := shiftFlags (a >>> 1) (a.getLsbD 0)

/-- ROR, 43_bit R343: the old carry comes in at bit 7. -/
def rorFlags (a : Byte) (cOld : Bool) : Alu :=
  shiftFlags ((a >>> 1) ||| (carryIn cOld <<< 7)) (a.getLsbD 0)

/-- ASR, 43_bit R344: "Bit 7 is held constant." -/
def asrFlags (a : Byte) : Alu := shiftFlags ((a >>> 1) ||| (a &&& 0x80#8)) (a.getLsbD 0)

/-- LSL, 43_bit R340: H is old bit 3, C old bit 7. -/
def lslFlags (a : Byte) : Alu := { shiftFlags (a <<< 1) (a.getLsbD 7) with h := a.getLsbD 3 }

/-- ROL, 43_bit R342: the old carry comes in at bit 0. -/
def rolFlags (a : Byte) (cOld : Bool) : Alu :=
  { shiftFlags ((a <<< 1) ||| carryIn cOld) (a.getLsbD 7) with h := a.getLsbD 3 }

/-- ADIW, 40_arithmetic_logic R147. -/
def adiwFlags (a : BitVec 16) (k : BitVec 6) : Alu16 :=
  let r := a + k.zeroExtend 16
  let dh7 := a.getLsbD 15; let r15 := r.getLsbD 15
  { res := r, v := !dh7 && r15, n := r15, z := r == 0#16, c := !r15 && dh7 }

/-- SBIW, 40_arithmetic_logic R152. -/
def sbiwFlags (a : BitVec 16) (k : BitVec 6) : Alu16 :=
  let r := a - k.zeroExtend 16
  let dh7 := a.getLsbD 15; let r15 := r.getLsbD 15
  { res := r, v := dh7 && !r15, n := r15, z := r == 0#16, c := r15 && !dh7 }

/-- The integer multiplies, 40_arithmetic_logic R167 to R169: the product mod 65536, C its bit 15. -/
def mulFlags (p : Int) : Alu16 :=
  let r := BitVec.ofInt 16 p
  { res := r, v := false, n := false, z := r == 0#16, c := r.getLsbD 15 }

/-- The fractional multiplies, 40_arithmetic_logic R170 to R172: the product shifted left once, C bit 15 before the
shift, Z tested after it. -/
def fmulFlags (p : Int) : Alu16 :=
  let q := BitVec.ofInt 16 p
  let r := q <<< 1
  { res := r, v := false, n := false, z := r == 0#16, c := q.getLsbD 15 }

/-! ### Which flags an instruction writes (10_state R28) -/

/-- H S V N Z C; I and T stay. -/
def putHSVNZC (sr : Byte) (f : Alu) : Byte := sregOf (flagI sr) (flagT sr) f.h f.s f.v f.n f.z f.c

/-- S V N Z C; I, T, H stay. -/
def putSVNZC (sr : Byte) (f : Alu) : Byte := sregOf (flagI sr) (flagT sr) (flagH sr) f.s f.v f.n f.z f.c

/-- S V N Z; I, T, H, C stay. -/
def putSVNZ (sr : Byte) (f : Alu) : Byte := sregOf (flagI sr) (flagT sr) (flagH sr) f.s f.v f.n f.z (flagC sr)

/-- S V N Z C of a 16-bit result; I, T, H stay. -/
def putSVNZC16 (sr : Byte) (f : Alu16) : Byte := sregOf (flagI sr) (flagT sr) (flagH sr) f.s f.v f.n f.z f.c

/-- Z C of a product; the others stay. -/
def putZC16 (sr : Byte) (f : Alu16) : Byte :=
  sregOf (flagI sr) (flagT sr) (flagH sr) (flagS sr) (flagV sr) (flagN sr) f.z f.c

end Sys2Proof.Machine
end

