-- ==== Sys2Proof/Machine/Device.lean ====
section
/-! DEFINITION. The configuration of the AVR128DA64: the last column of 00_scope R8, the data map of 20_memory R74, the
interrupt parameters of 60_exceptions R404. Every value is a decision of spec/92 (D1 to D7, D15 to D18, D20 to D24, D30)
made from general knowledge (log 1). -/

namespace Sys2Proof

/-- RET_BYTES (00_scope R8): "2 when PC_BITS ≤ 16, 3 when PC_BITS = 22". -/
def Config.retBytes (c : Config) : Nat := if c.pcBits ≤ 16 then 2 else 3

/-- Whether the interrupt controller masks by the level in service (60_exceptions R404 (c)): AVRxm and AVRxt. On the
classic cores the I flag alone masks. -/
def Core.masksByLevel : Core → Bool
  | .avrxm => true
  | .avrxt => true
  | _ => false

end Sys2Proof

namespace Sys2Proof.Machine

/-- DataMap of the AVR128DA64 beyond the I/O space (20_memory R74); 0x1600 to 0x3FFF is in no region: Unmapped. -/
def avr128da64Regions : List Region :=
  [{ first := 0x0040, last := 0x103F, kind := .other },
   { first := 0x1040, last := 0x15FF, kind := .nvm },
   { first := 0x4000, last := 0x7FFF, kind := .ram },
   { first := 0x8000, last := 0xFFFF, kind := .progWindow 0x0000 0x8000 }]

/-- The AVR128DA64. The I/O addresses of the registers it has not are the conventional ones (R8, R33). -/
def avr128da64 : Config where
  core := .avrxt
  pcBits := 16
  flashEnd := 0xFFFF
  ramEnd := 0x7FFF
  ptrWidth := .w16
  hasRampx := false
  hasRampy := false
  hasRampz := true
  hasRampd := false
  hasEind := false
  ioBase := 0x0000
  regsInDs := false
  sregIo := 0x3F
  splIo := 0x3D
  sphIo := 0x3E
  rampdIo := 0x38
  rampxIo := 0x39
  rampyIo := 0x3A
  rampzIo := 0x3B
  eindIo := 0x3C
  spBits := 16
  spReset := 0x7FFF
  pcReset := 0x0000
  sregReset := 0x00#8
  regions := avr128da64Regions
  lacks := []
  ivecBase := 0x0000
  ivecWords := 2
  ivecCount := none
  irqClearsI := false
  retiSetsI := false
  levels := [.level0, .level1, .nmi]
  spmEffect := .absent
  sleepEffect := .modelled
  wdrEffect := .modelled
  breakEffect := .modelled
  debugAttached := false

end Sys2Proof.Machine
end

