-- ==== Sys2Proof/Machine/Memory.lean ====
section
/-! DEFINITION. Memory as a list of (address, byte) cells in one canonical form: addresses strictly rising. The data RAM
lists the bytes that have been written (an unlisted one holds no value, 10_state R37); the program space lists the bytes
that differ from 0xFF, the erased state (70_reset R448). -/

namespace Sys2Proof.Machine

/-- A canonical list of cells. -/
abbrev Memory := List Host.Cell

/-- Addresses strictly rise. -/
def Memory.wf : Memory → Bool
  | [] => true
  | [_] => true
  | c :: d :: m => c.1 < d.1 && Memory.wf (d :: m)

/-- The byte listed at an address. -/
def Memory.lookup (a : Nat) : Memory → Option Byte
  | [] => none
  | c :: m => if c.1 = a then some c.2 else Memory.lookup a m

/-- List `v` at address `a`, in its place. -/
def Memory.insert (a : Nat) (v : Byte) : Memory → Memory
  | [] => [(a, v)]
  | c :: m =>
    if a < c.1 then (a, v) :: c :: m
    else if a = c.1 then (a, v) :: m
    else c :: Memory.insert a v m

/-- List nothing at address `a`. -/
def Memory.erase (a : Nat) : Memory → Memory
  | [] => []
  | c :: m => if c.1 = a then m else c :: Memory.erase a m

/-- The erased state of Flash (70_reset R448). -/
def erasedByte : Byte := 0xFF#8

/-- The byte of program space at a byte address, an unlisted one erased (70_reset R448). -/
def Memory.flashByte (m : Memory) (b : Nat) : Byte := (Memory.lookup b m).getD erasedByte

/-- Program space with the byte at `b` set; an erased byte is not listed. -/
def Memory.setFlashByte (m : Memory) (b : Nat) (v : Byte) : Memory :=
  if v = erasedByte then Memory.erase b m else Memory.insert b v m

/-- The canonical form of program space: rising addresses, no erased byte listed. -/
def Memory.flashWf (m : Memory) : Bool := Memory.wf m && m.all fun c => c.2 != erasedByte

/-- The word at a word address, the low byte at the even byte address (20_memory R62). -/
def Memory.flashWord (m : Memory) (w : Nat) : Word := m.flashByte (2 * w + 1) ++ m.flashByte (2 * w)

/-- Program space with the word at `w` set (20_memory R62). -/
def Memory.setFlashWord (m : Memory) (w : Nat) (v : Word) : Memory :=
  (m.setFlashByte (2 * w) (v.extractLsb' 0 8)).setFlashByte (2 * w + 1) (v.extractLsb' 8 8)

end Sys2Proof.Machine
end

