-- ==== Sys2Proof/Machine/State.lean ====
section
/-! DEFINITION. The state of the machine (10_state, the tuple at its head, and R36), why a step can stop (00_scope R12), and
the state after reset (10_state R37, 70_reset R440). -/

namespace Sys2Proof.Machine

/-- What the environment does at one instruction boundary: it stands for the arbiter of 60_exceptions R404 and the
reset request of 70_reset R441 (log 5, log 6, log 8). -/
inductive EnvEvent
  /-- Nothing: the arbiter answers none. -/
  | quiet
  /-- The arbiter answers `some (n, level)`; the step checks conditions (a) to (c) of R404. -/
  | irq (n : Nat) (level : IrqLevel)
  /-- ResetRequest. -/
  | reset
  /-- The NVM controller shows another quarter of the Flash in the data-space window (20_memory R74). -/
  | mapFlash (quarter : BitVec 2)
  deriving DecidableEq, Repr

/-- The complete state. `cfg` is fixed; `env`, `sleepAnswers` and `draws` are the model's own (INVENTORY.md). -/
structure State where
  /-- The configuration (00_scope R8); nothing writes it. -/
  cfg : Config
  /-- R0 to R31 (10_state R20). -/
  regs : Vector Byte 32
  /-- The program counter, a word address below 2^PC_BITS (10_state R24). -/
  pc : BitVec 22
  /-- I T H S V N Z C, bits 7 to 0 (10_state R26). -/
  sreg : Byte
  /-- The stack pointer, below 2^SP_BITS (10_state R29). -/
  sp : BitVec 16
  rampx : Byte
  rampy : Byte
  rampz : Byte
  rampd : Byte
  eind : Byte
  /-- The RAM bytes of the data space that have been written. -/
  data : Memory
  /-- Program space, by bytes (20_memory R62). -/
  prog : Memory
  /-- The one-instruction interrupt inhibit (60_exceptions R410). -/
  inhibit : Bool
  /-- The levels in service, innermost first (60_exceptions R405). -/
  inService : List IrqLevel
  sleeping : Bool
  /-- BREAK has stopped the CPU for a debugger (44_mcu R390). -/
  stopped : Bool
  /-- The quarter of the Flash that the data-space window shows (20_memory R74). -/
  flashMap : BitVec 2
  /-- The history of the `Io` oracle, oldest first (20_memory R72). -/
  hist : List IoEvent
  /-- The environment's moves at the coming boundaries; none when the list is used up. -/
  env : List EnvEvent
  /-- The answers of Io.SleepEnabled() at the coming SLEEPs; true when the list is used up (44_mcu R395). -/
  sleepAnswers : List Bool
  /-- How many free values have been drawn. -/
  draws : Nat
  /-- Elapsed clock cycles (70_reset R460); no rule reads it. -/
  cyc : Nat
  deriving DecidableEq, Repr

/-- Why the machine stops: the Fault kinds of 00_scope R12. All are safe: the hardware would go on, doing something no
text describes, and no claim follows about it. -/
inductive Fault
  /-- Raised by the fetch of a word that is no instruction (30_encoding R120, R121). Safe. -/
  | reservedOpcode (w : Word)
  /-- Raised by the fetch of an instruction that the core or the device has not (30_encoding R121). Safe. -/
  | notAvailable (mnemonic : String)
  /-- Raised by a post-increment or pre-decrement access whose data register is half of its pointer (42_data_transfer
  R261, 30_encoding R122). Safe. -/
  | undefinedOperands (mnemonic : String)
  /-- Raised by an access to a data address that DataMap excludes (20_memory R70, R71). Safe. -/
  | unmappedData (a : Nat)
  /-- Raised by a fetch, a look-ahead, LPM, ELPM, SPM or a window read beyond FLASHEND, with the word address
  (20_memory R64). Safe. -/
  | unmappedProgram (w : Nat)
  /-- Raised by a step of a CPU that BREAK has stopped: there is no step (60_exceptions R406; log 12). Safe. -/
  | stoppedByBreak
  deriving DecidableEq, Repr

/-- Why the model gives no effect: the Refuse kind of 00_scope R12. Safe. -/
inductive Refusal
  /-- An instruction without a meaning in this model, rejected in exec's arm. Safe. -/
  | notModelled (mnemonic : String)
  /-- Raised where the effect belongs to a device function the configuration leaves uninterpreted (SPM, SLEEP, WDR,
  BREAK), by a store into the window onto Flash (20_memory R71), and by a read-modify-write instruction outside RAM
  (42_data_transfer R307). Safe. -/
  | deviceDefined (what : String)
  deriving DecidableEq, Repr

/-- The machine right after power-on reset, the AVR128DA64 (10_state R37, 70_reset R440). The registers R0 to R31 are
zero by the model's choice (log 2). -/
def State.reset : State where
  cfg := avr128da64
  regs := Vector.replicate 32 0x00#8
  pc := BitVec.ofNat 22 avr128da64.pcReset
  sreg := avr128da64.sregReset
  sp := BitVec.ofNat 16 avr128da64.spReset
  rampx := 0x00#8
  rampy := 0x00#8
  rampz := 0x00#8
  rampd := 0x00#8
  eind := 0x00#8
  data := []
  prog := []
  inhibit := false
  inService := []
  sleeping := false
  stopped := false
  flashMap := 0#2
  hist := []
  env := []
  sleepAnswers := []
  draws := 0
  cyc := 0

end Sys2Proof.Machine
end

