-- ==== Sys2Proof/Machine/Ops.lean ====
section
/-! DEFINITION. The named operations over registers and memory (00_scope R11): registers and their views, PC and SP, program
space, I/O space, data space, the stack, the skip, and the interrupt agent (entry, return, reset). -/

namespace Sys2Proof.Machine

/-- What an operation of the machine answers. -/
abbrev Res (α : Type) := Host.Outcome α Fault Refusal

/-- Go on with what `o` answers; a fault or a refusal stays. A stopped operation carries no state, so that "a faulting
instruction changes no state" (60_exceptions R401). -/
def andThen {α β : Type} (o : Res α) (k : α → Res β) : Res β :=
  match o with
  | .next a => k a
  | .fault f => .fault f
  | .refused r => .refused r

/-! ### General registers and pairs (10_state R20, R21) -/

/-- R[i]. -/
def State.r (s : State) (i : Reg) : Byte := s.regs.get i

/-- `R[i] <- v`. -/
def State.setR (s : State) (i : Reg) (v : Byte) : State := { s with regs := s.regs.set i.val v i.isLt }

/-- Rw[i], the pair R[i+1]:R[i] (00_scope R11). -/
def State.pair (s : State) (i : Reg) : BitVec 16 := s.r (i + 1) ++ s.r i

/-- `Rw[i] <- v`. -/
def State.setPair (s : State) (i : Reg) (v : BitVec 16) : State :=
  (s.setR i (v.extractLsb' 0 8)).setR (i + 1) (v.extractLsb' 8 8)

/-! ### PC, SREG, SP, the RAMP registers and EIND -/

/-- `pc <- t`, reduced mod 2^PC_BITS (00_scope R11, 10_state R25). -/
def State.setPc (s : State) (t : Nat) : State := { s with pc := BitVec.ofNat 22 (t % 2 ^ s.cfg.pcBits) }

/-- `pc <- pc + n`. -/
def State.advance (s : State) (n : Nat) : State := s.setPc (s.pc.toNat + n)

/-- RelTarget(k), 41_change_of_flow R200. -/
def State.relTarget (s : State) (k : Int) : Nat := (((s.pc.toNat : Int) + 1 + k) % (2 ^ s.cfg.pcBits : Nat)).toNat

/-- Write flags. -/
def State.setSreg (s : State) (v : Byte) : State := { s with sreg := v }

/-- Write SREG by an instruction that may set I: where I goes from 0 to 1 the next instruction is executed before any
interrupt is taken (60_exceptions R410; log 17). -/
def State.storeSreg (s : State) (v : Byte) : State :=
  { s with sreg := v, inhibit := s.inhibit || (!flagI s.sreg && flagI v) }

/-- `SP <- v`, mod 2^SP_BITS (10_state R29). -/
def State.setSp (s : State) (v : Nat) : State := { s with sp := BitVec.ofNat 16 (v % 2 ^ s.cfg.spBits) }

/-- RAMPX; a register whose HAS_ parameter is false "reads as zero and ignores writes" (10_state R30). -/
def State.getRampx (s : State) : Byte := if s.cfg.hasRampx then s.rampx else 0#8
def State.getRampy (s : State) : Byte := if s.cfg.hasRampy then s.rampy else 0#8
def State.getRampz (s : State) : Byte := if s.cfg.hasRampz then s.rampz else 0#8
def State.getRampd (s : State) : Byte := if s.cfg.hasRampd then s.rampd else 0#8
def State.getEind (s : State) : Byte := if s.cfg.hasEind then s.eind else 0#8

def State.setRampx (s : State) (v : Byte) : State := { s with rampx := if s.cfg.hasRampx then v else s.rampx }
def State.setRampy (s : State) (v : Byte) : State := { s with rampy := if s.cfg.hasRampy then v else s.rampy }
def State.setRampz (s : State) (v : Byte) : State := { s with rampz := if s.cfg.hasRampz then v else s.rampz }
def State.setRampd (s : State) (v : Byte) : State := { s with rampd := if s.cfg.hasRampd then v else s.rampd }
def State.setEind (s : State) (v : Byte) : State := { s with eind := if s.cfg.hasEind then v else s.eind }

/-! ### Program space (20_memory R60 to R65) -/

/-- ProgWord(w), 20_memory R64. -/
def State.progWord (s : State) (w : Nat) : Res Word :=
  if s.cfg.flashEnd < w then .fault (.unmappedProgram w) else .next (s.prog.flashWord w)

/-- ProgByte(b), 20_memory R65. -/
def State.progByte (s : State) (b : Nat) : Res Byte :=
  andThen (s.progWord (b / 2)) fun w => .next (if b % 2 = 0 then w.extractLsb' 0 8 else w.extractLsb' 8 8)

/-- PS(b) ← v, the word at byte address `b` (20_memory R62: the word `b >> 1`). -/
def State.setProgWord (s : State) (b : Nat) (v : Word) : Res State :=
  if s.cfg.flashEnd < b / 2 then .fault (.unmappedProgram (b / 2))
  else .next { s with prog := s.prog.setFlashWord (b / 2) v }

/-- Program space with words stored one after the other; a word beyond FLASHEND does not exist. -/
def storeWords (flashEnd : Nat) (m : Memory) : List (Nat × Word) → Memory
  | [] => m
  | (w, v) :: l => storeWords flashEnd (if w ≤ flashEnd then m.setFlashWord w v else m) l

/-- FREE VALUE (log 13): the words of program space, each with its new contents, that the device's NVM controller changes on an
SPM with this byte address and word in this state (42_data_transfer R297, 92 D15). -/
opaque Config.spmWrites (s : State) (addr : Nat) (word : Word) : List (Nat × Word)

/-- SpmEffect(state, addr, word) of a device: program space changes as the NVM controller decides, and the controller has been
handed the address and the word, which its later answers may depend on. It sees the whole state but the cycle counter,
which no rule reads (70_reset R460). -/
def State.spmDevice (s : State) (addr : Nat) (word : Word) : State :=
  { s with
    prog := storeWords s.cfg.flashEnd s.prog (Config.spmWrites { s with cyc := 0 } addr word)
    hist := s.hist ++ [.spm addr word] }

/-! ### The `Io` oracle and I/O space (20_memory R72) -/

/-- Record an event in the oracle's history. -/
def State.event (s : State) (e : IoEvent) : State := { s with hist := s.hist ++ [e] }

/-- Io.read(l): any byte, which may depend on the whole history; the read is part of the history of what follows. -/
def State.oracleRead (s : State) (l : IoLoc) : Byte × State :=
  (Config.ioAnswer s.hist l, s.event (.read l))

/-- Io.write(l, v): recorded. -/
def State.oracleWrite (s : State) (l : IoLoc) (v : Byte) : State := s.event (.write l v)

/-- IoRead(A), 20_memory R72. -/
def State.ioRead (s : State) (a : Nat) : Byte × State :=
  if a = s.cfg.sregIo then (s.sreg, s)
  else if a = s.cfg.splIo then (s.sp.extractLsb' 0 8, s)
  else if a = s.cfg.sphIo then (s.sp.extractLsb' 8 8, s)
  else if a = s.cfg.rampdIo ∧ s.cfg.hasRampd = true then (s.rampd, s)
  else if a = s.cfg.rampxIo ∧ s.cfg.hasRampx = true then (s.rampx, s)
  else if a = s.cfg.rampyIo ∧ s.cfg.hasRampy = true then (s.rampy, s)
  else if a = s.cfg.rampzIo ∧ s.cfg.hasRampz = true then (s.rampz, s)
  else if a = s.cfg.eindIo ∧ s.cfg.hasEind = true then (s.eind, s)
  else s.oracleRead (.io a)

/-- IoWrite(A, v), 20_memory R72: SPL and SPH are written one byte at a time (10_state R29). -/
def State.ioWrite (s : State) (a : Nat) (v : Byte) : State :=
  if a = s.cfg.sregIo then s.storeSreg v
  else if a = s.cfg.splIo then s.setSp (s.sp.extractLsb' 8 8 ++ v).toNat
  else if a = s.cfg.sphIo then s.setSp (v ++ s.sp.extractLsb' 0 8).toNat
  else if a = s.cfg.rampdIo ∧ s.cfg.hasRampd = true then s.setRampd v
  else if a = s.cfg.rampxIo ∧ s.cfg.hasRampx = true then s.setRampx v
  else if a = s.cfg.rampyIo ∧ s.cfg.hasRampy = true then s.setRampy v
  else if a = s.cfg.rampzIo ∧ s.cfg.hasRampz = true then s.setRampz v
  else if a = s.cfg.eindIo ∧ s.cfg.hasEind = true then s.setEind v
  else s.oracleWrite (.io a) v

/-! ### Data space (20_memory R66 to R75) -/

/-- The class of a data address (20_memory R70). -/
inductive DataLoc
  | ram
  | reg (i : Reg)
  | io (a : Nat)
  /-- The byte address in program space while State.flashMap is 0, and by how much a step of flashMap moves it. -/
  | progWindow (base stride : Nat)
  | other
  | unmapped
  deriving DecidableEq, Repr

/-- The class that the first region holding the address gives it. -/
def regionLoc (a : Nat) : List Region → DataLoc
  | [] => .unmapped
  | g :: gs =>
    if g.first ≤ a ∧ a ≤ g.last then
      match g.kind with
      | .ram => .ram
      | .io p => if p + (a - g.first) < 64 then .io (p + (a - g.first)) else .unmapped
      | .reg i => if h : i + (a - g.first) < 32 then .reg ⟨i + (a - g.first), h⟩ else .unmapped
      | .progWindow base stride => .progWindow (base + (a - g.first)) stride
      | .other => .other
      | .nvm => .other
      | .unmapped => .unmapped
    else regionLoc a gs

/-- DataMap: "DataMap(IO_BASE + A) = Io(A) for 0 ≤ A ≤ 63" (20_memory R73), the register file at 0 to 31 where
REGS_IN_DS, and the regions of the device (R74). -/
def dataLoc (c : Config) (a : Nat) : DataLoc :=
  if c.ioBase ≤ a ∧ a < c.ioBase + 64 then .io (a - c.ioBase)
  else if h : c.regsInDs = true ∧ a < 32 then .reg ⟨a, h.2⟩
  else regionLoc a c.regions

/-- The byte address in program space that an address of a window designates. On the AVR128DA64 the window shows the quarter
that flashMap numbers (20_memory R74: stride 0x8000). For other configurations R8 leaves the byte address to DataMap: with a
stride of 0 it is any fixed one. DESIGN CHOICE (log 33): where a window moves, one flashMap moves every such window. -/
def State.windowByte (s : State) (base stride : Nat) : Nat := s.flashMap.toNat * stride + base

/-- A read of RAM: the byte written last, or a fresh free byte where none has been (10_state R37, 20_memory R70). -/
def State.ramRead (s : State) (a : Nat) : Byte × State :=
  match s.data.lookup a with
  | some v => (v, s)
  | none => (Config.ramDraw s.draws, { s with draws := s.draws + 1 })

/-- `Data[a] <- v`. -/
def State.ramWrite (s : State) (a : Nat) (v : Byte) : State := { s with data := s.data.insert a v }

/-- MemRead(a, 1), 20_memory R70. -/
def State.memRead (s : State) (a : Nat) : Res (Byte × State) :=
  match dataLoc s.cfg a with
  | .ram => .next (s.ramRead a)
  | .reg i => .next (s.r i, s)
  | .io p => .next (s.ioRead p)
  | .progWindow o n => andThen (s.progByte (s.windowByte o n)) fun v => .next (v, s)
  | .other => .next (s.oracleRead (.other a))
  | .unmapped => .fault (.unmappedData a)

/-- MemWrite(a, 1, v), 20_memory R71. -/
def State.memWrite (s : State) (a : Nat) (v : Byte) : Res State :=
  match dataLoc s.cfg a with
  | .ram => .next (s.ramWrite a v)
  | .reg i => .next (s.setR i v)
  | .io p => .next (s.ioWrite p v)
  | .progWindow _ _ => .refused (.deviceDefined "store to mapped Flash")
  | .other => .next (s.oracleWrite (.other a) v)
  | .unmapped => .fault (.unmappedData a)

/-! ### The stack (20_memory R80 to R84) -/

/-- Push(v): `MemWrite(SP, 1, v); SP <- SP − 1` (20_memory R80). -/
def State.push (s : State) (v : Byte) : Res State :=
  andThen (s.memWrite s.sp.toNat v) fun t => .next (t.setSp (t.sp - 1#16).toNat)

/-- Pop(): `SP <- SP + 1; MemRead(SP, 1)` (20_memory R81). -/
def State.pop (s : State) : Res (Byte × State) :=
  let t := s.setSp (s.sp + 1#16).toNat
  t.memRead t.sp.toNat

/-- PushPC(a), 20_memory R82: RET_BYTES bytes, least significant first. -/
def State.pushPc (s : State) (a : BitVec 22) : Res State :=
  andThen (s.push (a.extractLsb' 0 8)) fun t =>
  andThen (t.push (a.extractLsb' 8 8)) fun u =>
  if s.cfg.retBytes = 3 then u.push (0#2 ++ a.extractLsb' 16 6) else .next u

/-- PopPC(), 20_memory R83: the address (the caller's `pc <-` discards the bits above PC_BITS) and the state. -/
def State.popPc (s : State) : Res (Nat × State) :=
  andThen (if s.cfg.retBytes = 3 then s.pop else .next (0#8, s)) fun (ext, t) =>
  andThen t.pop fun (hi, u) =>
  andThen u.pop fun (lo, w) =>
  .next ((ext ++ hi ++ lo).toNat, w)

/-- The return address of a call of `n` words: `(pc + n) mod 2^PC_BITS`. -/
def State.returnAddr (s : State) (n : Nat) : BitVec 22 := BitVec.ofNat 22 ((s.pc.toNat + n) % 2 ^ s.cfg.pcBits)

/-! ### The skip (41_change_of_flow R201) -/

/-- Skip() when `cond` holds, `pc <- pc + 1` when it does not; the next word counts only for a skip, by the length it
would have as an instruction, "whether or not that word would decode". -/
def State.skipIf (s : State) (cond : Bool) : Res State :=
  match s.progWord ((s.pc.toNat + 1) % 2 ^ s.cfg.pcBits) with
  | .next w => .next (s.advance (if cond then 1 + instrLen s.cfg.core w else 1))
  | .fault f => if cond then .fault f else .next (s.advance 1)
  | .refused r => if cond then .refused r else .next (s.advance 1)

/-! ### The interrupt agent (60_exceptions R404 to R412) -/

/-- The vectors the configuration has: "vector number n ≥ 1", below IVEC_COUNT where that is bound (R403, R404; log 16). -/
def vectorExists (c : Config) (n : Nat) : Bool :=
  n != 0 && (match c.ivecCount with | none => true | some k => decide (n < k))

/-- Conditions (a) to (c) of R404 on a request: I is set or the level is NMI; no inhibit; on AVRxm and AVRxt no handler of
the same or a higher level in service. -/
def State.maySend (s : State) (level : IrqLevel) : Bool :=
  (flagI s.sreg || level == .nmi) && !s.inhibit &&
    (!s.cfg.core.masksByLevel || s.inService.all fun l => decide (l.rank < level.rank))

/-- The request taken at this boundary, if any (R404, R406). -/
def State.granted (s : State) (e : EnvEvent) : Option (Nat × IrqLevel) :=
  match e with
  | .irq n level =>
    if s.maySend level && s.cfg.levels.contains level && vectorExists s.cfg n then some (n, level) else none
  | .quiet => none
  | .reset => none
  | .mapFlash _ => none

/-- The word address of vector n: "IVEC_BASE + n * IVEC_WORDS" (R408). -/
def vectorAddr (c : Config) (n : Nat) : Nat := c.ivecBase + n * c.ivecWords

/-- EnterIrq(n, level), 60_exceptions R408: the PC is pushed and nothing else is saved. The push is no instruction's
store, so that it leaves the inhibit as it was (log 17). -/
def State.enterIrq (s : State) (n : Nat) (level : IrqLevel) : Res State :=
  andThen (s.pushPc s.pc) fun t =>
    let u := { t with
      inhibit := s.inhibit
      sreg := if s.cfg.irqClearsI then putBit t.sreg 7#3 false else t.sreg
      inService := level :: t.inService }
    .next (u.setPc (vectorAddr s.cfg n))

/-- IrqReturn(), 60_exceptions R409. -/
def State.irqReturn (s : State) : State := { s with inService := s.inService.tail, inhibit := true }

/-- Reset() on a running machine (70_reset R440, R441). Configuration, program, the window's quarter, the environment's
moves and the counters stay; the history goes on, with the reset in it (log 6). -/
def State.applyReset (s : State) : State :=
  { s with
    regs := Vector.replicate 32 0x00#8
    pc := BitVec.ofNat 22 (s.cfg.pcReset % 2 ^ s.cfg.pcBits)
    sreg := s.cfg.sregReset
    sp := BitVec.ofNat 16 (s.cfg.spReset % 2 ^ s.cfg.spBits)
    rampx := 0x00#8
    rampy := 0x00#8
    rampz := 0x00#8
    rampd := 0x00#8
    eind := 0x00#8
    data := []
    inhibit := false
    inService := []
    sleeping := false
    stopped := false
    hist := s.hist ++ [.reset] }

/-! ### The environment's list -/

/-- The environment's move at this boundary. -/
def State.envHead (s : State) : EnvEvent := s.env.headD .quiet

/-- The state after that move, before interrupts are looked at: the list is shorter, the window may have moved. -/
def State.takeEnv (s : State) : State :=
  { s with
    env := s.env.tail
    flashMap := match s.envHead with
      | .mapFlash q => q
      | .quiet => s.flashMap
      | .irq _ _ => s.flashMap
      | .reset => s.flashMap }

end Sys2Proof.Machine
end

