-- ==== Sys2Proof/Machine/Boundary.lean ====
section
/-! DEFINITION. What happens at an instruction boundary, before any instruction: Step of 60_exceptions R406, with the reset
request of 70_reset R441. -/

namespace Sys2Proof.Machine

/-- What a step does, and the state it does it in. -/
inductive Boundary
  /-- No step: BREAK has stopped the CPU. -/
  | stopped
  /-- A reset is applied. -/
  | reset (s : State)
  /-- An interrupt is entered. -/
  | interrupt (n : Nat) (level : IrqLevel) (s : State)
  /-- The CPU sleeps on. -/
  | idle (s : State)
  /-- One instruction is executed. -/
  | run (s : State)
  deriving DecidableEq, Repr

/-- The order of R406 and R441: stopped, reset, interrupt (asked with the inhibit as it stands, which is then cleared; it
wakes a sleeping CPU), sleep, instruction. -/
def State.boundary (s : State) : Boundary :=
  if s.stopped then .stopped
  else if s.envHead = .reset then .reset s.takeEnv.applyReset
  else
    match s.granted s.envHead with
    | some (n, level) => .interrupt n level { s.takeEnv with inhibit := false, sleeping := false }
    | none =>
      if s.sleeping then .idle { s.takeEnv with inhibit := false } else .run { s.takeEnv with inhibit := false }

end Sys2Proof.Machine
end

