-- ==== Sys2Proof/Machine/Operands.lean ====
section
/-! DEFINITION. The operand forms of the data-transfer instructions (42_data_transfer R260): the pointers, the effective
addresses, and one operation per addressing mode, which the instructions share. -/

namespace Sys2Proof.Machine

/-- The three pointers (10_state R21). -/
inductive Ptr
  | x
  | y
  | z
  deriving DecidableEq, Repr

/-- The low register of a pointer (42_data_transfer R260: "lo = 26, 28, 30"). -/
def Ptr.lo : Ptr → Reg
  | .x => 26
  | .y => 28
  | .z => 30

/-- The register is half of the pointer (42_data_transfer R261). -/
def Ptr.holds (p : Ptr) (i : Reg) : Bool := i == p.lo || i == p.lo + 1

/-- RAMPP of a pointer; zero where the device has it not (00_scope R11; log 21). -/
def State.ramp (s : State) (p : Ptr) : Byte :=
  match p with
  | .x => s.getRampx
  | .y => s.getRampy
  | .z => s.getRampz

def State.setRamp (s : State) (p : Ptr) (v : Byte) : State :=
  match p with
  | .x => s.setRampx v
  | .y => s.setRampy v
  | .z => s.setRampz v

/-- 2^DATA_PTR_BITS. -/
def Config.ptrMod (c : Config) : Nat := 2 ^ c.ptrWidth.bits

/-- PtrGet(P), 42_data_transfer R260. -/
def State.ptrGet (s : State) (p : Ptr) : Nat :=
  match s.cfg.ptrWidth with
  | .w8 => (s.r p.lo).toNat
  | .w16 => (s.pair p.lo).toNat
  | .w24 => (s.ramp p ++ s.pair p.lo).toNat

/-- PtrSet(P, v), 42_data_transfer R260: "R[lo+1] untouched when DATA_PTR_BITS == 8". -/
def State.ptrSet (s : State) (p : Ptr) (v : Nat) : State :=
  match s.cfg.ptrWidth with
  | .w8 => s.setR p.lo (BitVec.ofNat 8 v)
  | .w16 => s.setPair p.lo (BitVec.ofNat 16 v)
  | .w24 => (s.setPair p.lo (BitVec.ofNat 16 v)).setRamp p ((BitVec.ofNat 24 v).extractLsb' 16 8)

/-- The pointer after a post-increment. -/
def State.ptrUp (s : State) (p : Ptr) : Nat := (s.ptrGet p + 1) % Config.ptrMod s.cfg

/-- The pointer after a pre-decrement, the effective address of that mode. -/
def State.ptrDown (s : State) (p : Ptr) : Nat :=
  (s.ptrGet p + (Config.ptrMod s.cfg - 1)) % Config.ptrMod s.cfg

/-- EA(P, disp q). -/
def State.ptrDisp (s : State) (p : Ptr) (q : BitVec 6) : Nat := (s.ptrGet p + q.toNat) % Config.ptrMod s.cfg

/-- The address of the two-word LDS and STS: RAMPD:k with 24-bit pointers, else k (42_data_transfer R265, R278). -/
def State.directAddr (s : State) (k : BitVec 16) : Nat :=
  match s.cfg.ptrWidth with
  | .w8 => k.toNat
  | .w16 => k.toNat
  | .w24 => (s.getRampd ++ k).toNat

/-! ### Loads: read, write Rd, go on -/

/-- Load from a given address by an instruction of `n` words. -/
def loadAt (a : Nat) (d : Reg) (n : Nat) (s : State) : Res State :=
  andThen (s.memRead a) fun (v, t) => .next ((t.setR d v).advance n)

/-- Load, post-increment: the pointer is written before Rd (42_data_transfer R268). -/
def loadInc (mn : String) (p : Ptr) (d : Reg) (s : State) : Res State :=
  if p.holds d then .fault (.undefinedOperands mn)
  else andThen (s.memRead (s.ptrGet p)) fun (v, t) => .next (((t.ptrSet p (s.ptrUp p)).setR d v).advance 1)

/-- Load, pre-decrement (42_data_transfer R269). -/
def loadDec (mn : String) (p : Ptr) (d : Reg) (s : State) : Res State :=
  if p.holds d then .fault (.undefinedOperands mn) else loadAt (s.ptrDown p) d 1 (s.ptrSet p (s.ptrDown p))

/-! ### Stores -/

/-- Store to a given address by an instruction of `n` words. -/
def storeAt (a : Nat) (r : Reg) (n : Nat) (s : State) : Res State :=
  andThen (s.memWrite a (s.r r)) fun t => .next (t.advance n)

/-- Store, post-increment (42_data_transfer R281). -/
def storeInc (mn : String) (p : Ptr) (r : Reg) (s : State) : Res State :=
  if p.holds r then .fault (.undefinedOperands mn)
  else andThen (s.memWrite (s.ptrGet p) (s.r r)) fun t => .next ((t.ptrSet p (s.ptrUp p)).advance 1)

/-- Store, pre-decrement (42_data_transfer R282). -/
def storeDec (mn : String) (p : Ptr) (r : Reg) (s : State) : Res State :=
  if p.holds r then .fault (.undefinedOperands mn) else storeAt (s.ptrDown p) r 1 (s.ptrSet p (s.ptrDown p))

/-! ### Program memory -/

/-- The byte address of LPM: `zext(R31:R30)`, RAMPZ not used (42_data_transfer R291). -/
def State.lpmAddr (s : State) : Nat := (s.pair 30).toNat

/-- The byte address of ELPM and SPM: `RAMPZ : R31 : R30` (42_data_transfer R294, R297). -/
def State.elpmAddr (s : State) : Nat := (s.getRampz ++ s.pair 30).toNat

/-- `(RAMPZ : Z) <- v mod 2^24`. -/
def State.setElpmAddr (s : State) (v : Nat) : State :=
  (s.setPair 30 (BitVec.ofNat 16 v)).setRampz ((BitVec.ofNat 24 v).extractLsb' 16 8)

/-- Load from program memory at a byte address. -/
def loadProg (b : Nat) (d : Reg) (s : State) : Res State :=
  andThen (s.progByte b) fun v => .next ((s.setR d v).advance 1)

/-! ### Read-modify-write (42_data_transfer R303 to R307) -/

/-- `old = MemRead(Z); MemWrite(Z, f(Rd, old)); R[d] <- old`, on RAM only; another class is refused (R307), an unmapped
address faults first (60_exceptions R401; log 22). -/
def rmw (mn : String) (f : Byte → Byte → Byte) (d : Reg) (s : State) : Res State :=
  let a := s.ptrGet .z
  match dataLoc s.cfg a with
  | .ram =>
    let (old, t) := s.ramRead a
    .next (((t.ramWrite a (f (s.r d) old)).setR d old).advance 1)
  | .reg _ => .refused (.deviceDefined mn)
  | .io _ => .refused (.deviceDefined mn)
  | .progWindow _ _ => .refused (.deviceDefined mn)
  | .other => .refused (.deviceDefined mn)
  | .unmapped => .fault (.unmappedData a)

/-! ### R15:R0 as one block (40_arithmetic_logic R173) -/

/-- R0 to R15. -/
def lowRegs : List Reg := [0, 1, 2, 3, 4, 5, 6, 7, 8, 9, 10, 11, 12, 13, 14, 15]

/-- R15:R0, R15 the most significant byte. -/
def State.block (s : State) : BitVec 128 :=
  s.r 15 ++ s.r 14 ++ s.r 13 ++ s.r 12 ++ s.r 11 ++ s.r 10 ++ s.r 9 ++ s.r 8 ++
    s.r 7 ++ s.r 6 ++ s.r 5 ++ s.r 4 ++ s.r 3 ++ s.r 2 ++ s.r 1 ++ s.r 0

/-- `R15:R0 <- b`. -/
def State.setBlock (s : State) (b : BitVec 128) : State :=
  lowRegs.foldl (fun t i => t.setR i (b.extractLsb' (8 * i.val) 8)) s

end Sys2Proof.Machine
end

