-- ==== Sys2Proof/Machine/Cycles.lean ====
section
/-! DEFINITION. Clock cycles (70_reset R460 to R463): the counter `cyc`, which no rule reads. Each instruction's four figures
are the "Cycles" line of its rule, in the columns AVRe / AVRxm / AVRxt / AVRrc; AVRe stands for AVR, AVRe and AVRe+. A time
the spec leaves open is a free value (log 19). -/

namespace Sys2Proof.Machine

/-- A number of cycles. -/
inductive Cost
  | exactly (n : Nat)
  /-- A free number from `n` to `m`. -/
  | between (n m : Nat)
  /-- A free number, `n` at least. -/
  | atLeast (n : Nat)
  deriving DecidableEq, Repr

/-- A time the spec does not give (R463; "Varies with the programming time of the device"; a column that reads N/A). -/
def Cost.unstated : Cost := .atLeast 0

/-- Let the time pass. -/
def State.charge (s : State) (c : Cost) : State :=
  match c with
  | .exactly n => { s with cyc := s.cyc + n }
  | .between n m =>
    { s with cyc := s.cyc + n + Config.openCycles s.draws % (m - n + 1), draws := s.draws + 1 }
  | .atLeast n => { s with cyc := s.cyc + n + Config.openCycles s.draws, draws := s.draws + 1 }

/-- The figure of the core's column (R460). -/
def column (core : Core) (e xm xt rc : Cost) : Cost :=
  match core with
  | .avr => e
  | .avre => e
  | .avrePlus => e
  | .avrxm => xm
  | .avrxt => xt
  | .avrrc => rc

/-- Four plain figures. -/
def figures (core : Core) (e xm xt rc : Nat) : Cost :=
  column core (.exactly e) (.exactly xm) (.exactly xt) (.exactly rc)

/-- Three plain figures, N/A on AVRrc. -/
def figures3 (core : Core) (e xm xt : Nat) : Cost :=
  column core (.exactly e) (.exactly xm) (.exactly xt) .unstated

/-- The first region that holds the address is non-volatile memory: fuses, EEPROM. -/
def inNvm (a : Nat) : List Region → Bool
  | [] => false
  | g :: gs => if g.first ≤ a ∧ a ≤ g.last then g.kind == .nvm else inNvm a gs

/-- Notes (1) and (2) of R461: `n` cycles for internal RAM; one more at least for non-volatile memory (the window onto
Flash, EEPROM, fuses); for what else the oracle answers, at least `n`. Note (2) stands in the AVRxt column alone; DESIGN CHOICE
(log 19): its bound for non-volatile memory is taken in the columns AVRe and AVRxm too, where the spec gives none. -/
def accessCost (s : State) (a n : Nat) : Cost :=
  match dataLoc s.cfg a with
  | .ram => .exactly n
  | .reg _ => .exactly n
  | .io _ => .exactly n
  | .progWindow _ _ => .atLeast (n + 1)
  | .other => .atLeast (if inNvm a s.cfg.regions then n + 1 else n)
  | .unmapped => .unstated

/-- Note (3) of R461, the AVRxm column of the loads: "one cycle can be deducted" for an I/O register; for non-volatile memory
the bound of note (2), which this column does not carry (DESIGN CHOICE, log 19). -/
def loadCostXm (s : State) (a n : Nat) : Cost :=
  match dataLoc s.cfg a with
  | .ram => .exactly n
  | .reg _ => .exactly n
  | .io _ => .between (n - 1) n
  | .progWindow _ _ => .atLeast (n + 1)
  | .other => .atLeast (if inNvm a s.cfg.regions then n + 1 else n - 1)
  | .unmapped => .unstated

/-- A load. -/
def loadCost (s : State) (a e xm xt : Nat) (rc : Cost) : Cost :=
  column s.cfg.core (accessCost s a e) (loadCostXm s a xm) (accessCost s a xt) rc

/-- A store. -/
def storeCost (s : State) (a e xm xt : Nat) (rc : Cost) : Cost :=
  column s.cfg.core (accessCost s a e) (accessCost s a xm) (accessCost s a xt) rc

/-- `n` cycles where the stack's bytes from `first` on, `count` of them, are RAM (note (1)); else at least `n`. -/
def stackCost (s : State) (first count n : Nat) : Cost :=
  if (List.range count).all fun j => dataLoc s.cfg ((first + j) % 2 ^ s.cfg.spBits) = .ram then .exactly n
  else .atLeast n

/-- A call: `a` with a 16-bit PC, one more with a 22-bit PC (R461), the bytes below and at SP written; note (1) stands in the
columns AVRe and AVRxm alone. -/
def callCost (s : State) (e xm xt rc : Nat) : Cost :=
  let x := if s.cfg.retBytes = 3 then 1 else 0
  let stack := stackCost s (s.sp.toNat + 2 ^ s.cfg.spBits + 1 - s.cfg.retBytes) s.cfg.retBytes
  column s.cfg.core (stack (e + x)) (stack (xm + x)) (.exactly (xt + x)) (.exactly rc)

/-- RET and RETI: "4 / 5" by the width of the PC, 6 on AVRrc; note (1) in the columns AVRe and AVRxm alone. -/
def retCost (s : State) : Cost :=
  let x := if s.cfg.retBytes = 3 then 5 else 4
  let stack := stackCost s (s.sp.toNat + 1) s.cfg.retBytes
  column s.cfg.core (stack x) (stack x) (.exactly x) (.exactly 6)

/-- "i) If the condition is false. ii) If the condition is true." (R461). -/
def branchCost (taken : Bool) : Cost := .exactly (if taken then 2 else 1)

/-- The words skipped between the states before and after a skip instruction (R461: "no skip / skip one word / skip two
words"). -/
def skippedWords (s t : State) : Nat :=
  (t.pc.toNat + 2 ^ s.cfg.pcBits - s.pc.toNat - 1) % 2 ^ s.cfg.pcBits

/-- CPSE, SBRC, SBRS, and on the other cores than AVRxm SBIC, SBIS. -/
def skipCost (s t : State) : Cost := .exactly (1 + skippedWords s t)

/-- SBIC, SBIS: "1 / 2 / 3", on AVRxm "2 / 3 / 4" (R218, R219). -/
def skipIoCost (s t : State) : Cost :=
  column s.cfg.core (skipCost s t) (.exactly (2 + skippedWords s t)) (skipCost s t) (skipCost s t)

/-- The cycles of an instruction executed in `s` with the next state `t`. -/
def instrCost (i : Instr) (s t : State) : Cost :=
  match i with
  | .add _ _ => .exactly 1
  | .adc _ _ => .exactly 1
  | .adiw _ _ => figures3 s.cfg.core 2 2 2
  | .sub _ _ => .exactly 1
  | .subi _ _ => .exactly 1
  | .sbc _ _ => .exactly 1
  | .sbci _ _ => .exactly 1
  | .sbiw _ _ => figures3 s.cfg.core 2 2 2
  | .and _ _ => .exactly 1
  | .andi _ _ => .exactly 1
  | .or _ _ => .exactly 1
  | .ori _ _ => .exactly 1
  | .eor _ _ => .exactly 1
  | .com _ => .exactly 1
  | .neg _ => .exactly 1
  | .sbr _ _ => .exactly 1
  | .cbr _ _ => .exactly 1
  | .inc _ => .exactly 1
  | .dec _ => .exactly 1
  | .tst _ => .exactly 1
  | .clr _ => .exactly 1
  | .ser _ => .exactly 1
  | .mul _ _ => figures3 s.cfg.core 2 2 2
  | .muls _ _ => figures3 s.cfg.core 2 2 2
  | .mulsu _ _ => figures3 s.cfg.core 2 2 2
  | .fmul _ _ => figures3 s.cfg.core 2 2 2
  | .fmuls _ _ => figures3 s.cfg.core 2 2 2
  | .fmulsu _ _ => figures3 s.cfg.core 2 2 2
  | .des _ => column s.cfg.core .unstated (.between 1 2) .unstated .unstated
  | .rjmp _ => figures s.cfg.core 2 2 2 2
  | .ijmp => figures s.cfg.core 2 2 2 2
  | .eijmp => figures3 s.cfg.core 2 2 2
  | .jmp _ => figures3 s.cfg.core 3 3 3
  | .rcall _ => callCost s 3 2 2 3
  | .icall => callCost s 3 2 2 3
  | .eicall => callCost s 3 2 2 3
  | .call _ => callCost s 4 3 3 4
  | .ret => retCost s
  | .reti => retCost s
  | .cpse _ _ => skipCost s t
  | .cp _ _ => .exactly 1
  | .cpc _ _ => .exactly 1
  | .cpi _ _ => .exactly 1
  | .sbrc _ _ => skipCost s t
  | .sbrs _ _ => skipCost s t
  | .sbic _ _ => skipIoCost s t
  | .sbis _ _ => skipIoCost s t
  | .brbs f _ => branchCost (getBit s.sreg f)
  | .brbc f _ => branchCost (!getBit s.sreg f)
  | .breq _ => branchCost (flagZ s.sreg)
  | .brne _ => branchCost (!flagZ s.sreg)
  | .brcs _ => branchCost (flagC s.sreg)
  | .brcc _ => branchCost (!flagC s.sreg)
  | .brsh _ => branchCost (!flagC s.sreg)
  | .brlo _ => branchCost (flagC s.sreg)
  | .brmi _ => branchCost (flagN s.sreg)
  | .brpl _ => branchCost (!flagN s.sreg)
  | .brge _ => branchCost (!flagS s.sreg)
  | .brlt _ => branchCost (flagS s.sreg)
  | .brhs _ => branchCost (flagH s.sreg)
  | .brhc _ => branchCost (!flagH s.sreg)
  | .brts _ => branchCost (flagT s.sreg)
  | .brtc _ => branchCost (!flagT s.sreg)
  | .brvs _ => branchCost (flagV s.sreg)
  | .brvc _ => branchCost (!flagV s.sreg)
  | .brie _ => branchCost (flagI s.sreg)
  | .brid _ => branchCost (!flagI s.sreg)
  | .mov _ _ => .exactly 1
  | .movw _ _ => figures3 s.cfg.core 1 1 1
  | .ldi _ _ => .exactly 1
  | .lds _ k => loadCost s (s.directAddr k) 2 3 3 .unstated
  | .ldsRc _ _ => figures s.cfg.core 2 2 2 2
  | .ldX _ => loadCost s (s.ptrGet .x) 2 2 2 (.between 1 2)
  | .ldXInc _ => loadCost s (s.ptrGet .x) 2 2 2 (.between 2 3)
  | .ldXDec _ => loadCost s (s.ptrDown .x) 2 3 2 (.between 2 3)
  | .ldY _ => loadCost s (s.ptrGet .y) 2 2 2 (.between 1 2)
  | .ldYInc _ => loadCost s (s.ptrGet .y) 2 2 2 (.between 2 3)
  | .ldYDec _ => loadCost s (s.ptrDown .y) 2 3 2 (.between 2 3)
  | .lddY _ q => loadCost s (s.ptrDisp .y q) 2 3 2 .unstated
  | .ldZ _ => loadCost s (s.ptrGet .z) 2 2 2 (.between 1 2)
  | .ldZInc _ => loadCost s (s.ptrGet .z) 2 2 2 (.between 2 3)
  | .ldZDec _ => loadCost s (s.ptrDown .z) 2 3 2 (.between 2 3)
  | .lddZ _ q => loadCost s (s.ptrDisp .z q) 2 3 2 .unstated
  | .sts k _ => storeCost s (s.directAddr k) 2 2 2 .unstated
  | .stsRc _ _ => figures s.cfg.core 1 1 1 1
  | .stX _ => storeCost s (s.ptrGet .x) 2 1 1 (.exactly 1)
  | .stXInc _ => storeCost s (s.ptrGet .x) 2 1 1 (.exactly 1)
  | .stXDec _ => storeCost s (s.ptrDown .x) 2 2 1 (.exactly 2)
  | .stY _ => storeCost s (s.ptrGet .y) 2 1 1 (.exactly 1)
  | .stYInc _ => storeCost s (s.ptrGet .y) 2 1 1 (.exactly 1)
  | .stYDec _ => storeCost s (s.ptrDown .y) 2 2 1 (.exactly 2)
  | .stdY q _ => storeCost s (s.ptrDisp .y q) 2 2 1 .unstated
  | .stZ _ => storeCost s (s.ptrGet .z) 2 1 1 (.exactly 1)
  | .stZInc _ => storeCost s (s.ptrGet .z) 2 1 1 (.exactly 1)
  | .stZDec _ => storeCost s (s.ptrDown .z) 2 2 1 (.exactly 2)
  | .stdZ q _ => storeCost s (s.ptrDisp .z q) 2 2 1 .unstated
  | .lpmR0 => figures3 s.cfg.core 3 3 3
  | .lpmZ _ => figures3 s.cfg.core 3 3 3
  | .lpmZInc _ => figures3 s.cfg.core 3 3 3
  | .elpmR0 => figures3 s.cfg.core 3 3 3
  | .elpmZ _ => figures3 s.cfg.core 3 3 3
  | .elpmZInc _ => figures3 s.cfg.core 3 3 3
  | .spm => .unstated
  | .spmZInc => .unstated
  | .inIo _ _ => .exactly 1
  | .out _ _ => .exactly 1
  | .push _ => column s.cfg.core (.exactly 2) (stackCost s s.sp.toNat 1 1) (.exactly 1) (.exactly 1)
  | .pop _ => column s.cfg.core (.exactly 2) (stackCost s (s.sp.toNat + 1) 1 2) (.exactly 2) (.exactly 3)
  | .xch _ => column s.cfg.core .unstated (.exactly 2) .unstated .unstated
  | .las _ => column s.cfg.core .unstated (.exactly 2) .unstated .unstated
  | .lac _ => column s.cfg.core .unstated (.exactly 2) .unstated .unstated
  | .lat _ => column s.cfg.core .unstated (.exactly 2) .unstated .unstated
  | .lsl _ => .exactly 1
  | .lsr _ => .exactly 1
  | .rol _ => .exactly 1
  | .ror _ => .exactly 1
  | .asr _ => .exactly 1
  | .swap _ => .exactly 1
  | .sbi _ _ => figures s.cfg.core 2 1 1 1
  | .cbi _ _ => figures s.cfg.core 2 1 1 1
  | .bst _ _ => .exactly 1
  | .bld _ _ => .exactly 1
  | .bset _ => .exactly 1
  | .bclr _ => .exactly 1
  | .sec => .exactly 1
  | .clc => .exactly 1
  | .sen => .exactly 1
  | .cln => .exactly 1
  | .sez => .exactly 1
  | .clz => .exactly 1
  | .sei => .exactly 1
  | .cli => .exactly 1
  | .ses => .exactly 1
  | .cls => .exactly 1
  | .sev => .exactly 1
  | .clv => .exactly 1
  | .set => .exactly 1
  | .clt => .exactly 1
  | .seh => .exactly 1
  | .clh => .exactly 1
  | .brk => .exactly 1
  | .nop => .exactly 1
  | .sleep => .exactly 1
  | .wdr => .exactly 1

end Sys2Proof.Machine
end

