-- ==== Sys2Proof/Machine/Arith.lean ====
section
/-! DEFINITION. The instructions of Table 5-2, arithmetic and logic (40_arithmetic_logic), and the compares of Table 5-3
(41_change_of_flow R213 to R215). All are one word, touch no memory and go to the next word (R143). -/

namespace Sys2Proof.Machine

/-! ### Shared operations -/

/-- `R[d] <- result`, flags as `put` writes them, next word. -/
def writeAlu (d : Reg) (f : Alu) (put : Byte → Alu → Byte) (s : State) : Res State :=
  .next (((s.setR d f.res).setSreg (put s.sreg f)).advance 1)

/-- Flags alone, next word. -/
def compareAlu (f : Alu) (s : State) : Res State := .next ((s.setSreg (putHSVNZC s.sreg f)).advance 1)

/-- `Rw[d] <- result`, S V N Z C, next word. -/
def writeAlu16 (d : Reg) (f : Alu16) (s : State) : Res State :=
  .next (((s.setPair d f.res).setSreg (putSVNZC16 s.sreg f)).advance 1)

/-- `R1:R0 <- product`, Z C, next word. -/
def writeProduct (f : Alu16) (s : State) : Res State :=
  .next (((s.setPair 0 f.res).setSreg (putZC16 s.sreg f)).advance 1)

/-- uint(R[i]). -/
def State.uint (s : State) (i : Reg) : Int := (s.r i).toNat

/-- sint(R[i]). -/
def State.sint (s : State) (i : Reg) : Int := (s.r i).toInt

/-! ### Addition and subtraction (R145 to R152) -/

/-- ADD, R145. -/
def execAdd (d r : Reg) (s : State) : Res State := writeAlu d (addFlags8 (s.r d) (s.r r) false) putHSVNZC s

/-- ADC, R146. -/
def execAdc (d r : Reg) (s : State) : Res State := writeAlu d (addFlags8 (s.r d) (s.r r) (flagC s.sreg)) putHSVNZC s

/-- ADIW, R147. -/
def execAdiw (d : Reg) (k : BitVec 6) (s : State) : Res State := writeAlu16 d (adiwFlags (s.pair d) k) s

/-- SUB, R148. -/
def execSub (d r : Reg) (s : State) : Res State :=
  writeAlu d (subFlags8 (s.r d) (s.r r) false false (flagZ s.sreg)) putHSVNZC s

/-- SUBI, R149. -/
def execSubi (d : Reg) (k : BitVec 8) (s : State) : Res State :=
  writeAlu d (subFlags8 (s.r d) k false false (flagZ s.sreg)) putHSVNZC s

/-- SBC, R150. -/
def execSbc (d r : Reg) (s : State) : Res State :=
  writeAlu d (subFlags8 (s.r d) (s.r r) (flagC s.sreg) true (flagZ s.sreg)) putHSVNZC s

/-- SBCI, R151. -/
def execSbci (d : Reg) (k : BitVec 8) (s : State) : Res State :=
  writeAlu d (subFlags8 (s.r d) k (flagC s.sreg) true (flagZ s.sreg)) putHSVNZC s

/-- SBIW, R152. -/
def execSbiw (d : Reg) (k : BitVec 6) (s : State) : Res State := writeAlu16 d (sbiwFlags (s.pair d) k) s

/-! ### Logic (R153 to R166) -/

/-- AND, R153. -/
def execAnd (d r : Reg) (s : State) : Res State := writeAlu d (logicFlags8 (s.r d &&& s.r r)) putSVNZ s

/-- ANDI, R154. -/
def execAndi (d : Reg) (k : BitVec 8) (s : State) : Res State := writeAlu d (logicFlags8 (s.r d &&& k)) putSVNZ s

/-- OR, R155. -/
def execOr (d r : Reg) (s : State) : Res State := writeAlu d (logicFlags8 (s.r d ||| s.r r)) putSVNZ s

/-- ORI, R156. -/
def execOri (d : Reg) (k : BitVec 8) (s : State) : Res State := writeAlu d (logicFlags8 (s.r d ||| k)) putSVNZ s

/-- EOR, R157. -/
def execEor (d r : Reg) (s : State) : Res State := writeAlu d (logicFlags8 (s.r d ^^^ s.r r)) putSVNZ s

/-- COM, R158; H is not written. -/
def execCom (d : Reg) (s : State) : Res State := writeAlu d (comFlags (s.r d)) putSVNZC s

/-- NEG, R159. -/
def execNeg (d : Reg) (s : State) : Res State := writeAlu d (negFlags (s.r d)) putHSVNZC s

/-- SBR, R160. -/
def execSbr (d : Reg) (k : BitVec 8) (s : State) : Res State := writeAlu d (logicFlags8 (s.r d ||| k)) putSVNZ s

/-- CBR, R161: "Rd ← Rd • (0xFFh - K)". -/
def execCbr (d : Reg) (k : BitVec 8) (s : State) : Res State :=
  writeAlu d (logicFlags8 (s.r d &&& (0xFF#8 - k))) putSVNZ s

/-- INC, R162; C and H are not written. -/
def execInc (d : Reg) (s : State) : Res State := writeAlu d (incFlags (s.r d)) putSVNZ s

/-- DEC, R163; C and H are not written. -/
def execDec (d : Reg) (s : State) : Res State := writeAlu d (decFlags (s.r d)) putSVNZ s

/-- TST, R164: "the register is unchanged". -/
def execTst (d : Reg) (s : State) : Res State :=
  .next ((s.setSreg (putSVNZ s.sreg (logicFlags8 (s.r d)))).advance 1)

/-- CLR, R165. -/
def execClr (d : Reg) (s : State) : Res State := writeAlu d (logicFlags8 0x00#8) putSVNZ s

/-- SER, R166: no flag. -/
def execSer (d : Reg) (s : State) : Res State := .next ((s.setR d 0xFF#8).advance 1)

/-! ### Multiplication (R167 to R172) -/

/-- MUL, R167. -/
def execMul (d r : Reg) (s : State) : Res State := writeProduct (mulFlags (s.uint d * s.uint r)) s

/-- MULS, R168. -/
def execMuls (d r : Reg) (s : State) : Res State := writeProduct (mulFlags (s.sint d * s.sint r)) s

/-- MULSU, R169: "Rd is the signed operand, Rr the unsigned". -/
def execMulsu (d r : Reg) (s : State) : Res State := writeProduct (mulFlags (s.sint d * s.uint r)) s

/-- FMUL, R170. -/
def execFmul (d r : Reg) (s : State) : Res State := writeProduct (fmulFlags (s.uint d * s.uint r)) s

/-- FMULS, R171. -/
def execFmuls (d r : Reg) (s : State) : Res State := writeProduct (fmulFlags (s.sint d * s.sint r)) s

/-- FMULSU, R172. -/
def execFmulsu (d r : Reg) (s : State) : Res State := writeProduct (fmulFlags (s.sint d * s.uint r)) s

/-! ### DES (R173) -/

/-- DES, R173: `(R[15..0]) <- DesRound(R[15..0], K, SREG.H)`, no flag (log 14). -/
def execDes (k : BitVec 4) (s : State) : Res State :=
  .next ((s.setBlock (Config.desRound s.block k (flagH s.sreg))).advance 1)

/-! ### Compares (41_change_of_flow R213 to R215) -/

/-- CP, R213. -/
def execCp (d r : Reg) (s : State) : Res State :=
  compareAlu (subFlags8 (s.r d) (s.r r) false false (flagZ s.sreg)) s

/-- CPC, R214. -/
def execCpc (d r : Reg) (s : State) : Res State :=
  compareAlu (subFlags8 (s.r d) (s.r r) (flagC s.sreg) true (flagZ s.sreg)) s

/-- CPI, R215. -/
def execCpi (d : Reg) (k : BitVec 8) (s : State) : Res State :=
  compareAlu (subFlags8 (s.r d) k false false (flagZ s.sreg)) s

end Sys2Proof.Machine
end

