-- ==== Sys2Proof/Machine/Bits.lean ====
section
/-! DEFINITION. The instructions of Table 5-5, bit and bit-test (43_bit_and_bit_test). -/

namespace Sys2Proof.Machine

/-! ### Shared operations -/

/-- `SREG[f] <- x`, next word; I going from 0 to 1 inhibits the next interrupt (R350, R351, R358). -/
def writeFlag (f : BitVec 3) (x : Bool) (s : State) : Res State := .next ((s.storeSreg (putBit s.sreg f x)).advance 1)

/-- `v = IoRead(A); IoWrite(A, v with bit b = x)`, next word (R346, R347). -/
def writeIoBit (a : BitVec 5) (b : BitVec 3) (x : Bool) (s : State) : Res State :=
  .next (((s.ioRead a.toNat).2.ioWrite a.toNat (putBit (s.ioRead a.toNat).1 b x)).advance 1)

/-! ### Shifts and rotates (R340 to R345) -/

/-- LSL, R340. -/
def execLsl (d : Reg) (s : State) : Res State := writeAlu d (lslFlags (s.r d)) putHSVNZC s

/-- LSR, R341. -/
def execLsr (d : Reg) (s : State) : Res State := writeAlu d (lsrFlags (s.r d)) putSVNZC s

/-- ROL, R342. -/
def execRol (d : Reg) (s : State) : Res State := writeAlu d (rolFlags (s.r d) (flagC s.sreg)) putHSVNZC s

/-- ROR, R343. -/
def execRor (d : Reg) (s : State) : Res State := writeAlu d (rorFlags (s.r d) (flagC s.sreg)) putSVNZC s

/-- ASR, R344. -/
def execAsr (d : Reg) (s : State) : Res State := writeAlu d (asrFlags (s.r d)) putSVNZC s

/-- SWAP, R345. -/
def execSwap (d : Reg) (s : State) : Res State :=
  .next ((s.setR d ((s.r d).extractLsb' 0 4 ++ (s.r d).extractLsb' 4 4)).advance 1)

/-! ### Bits in I/O registers (R346, R347) -/

/-- SBI, R346. -/
def execSbi (a : BitVec 5) (b : BitVec 3) (s : State) : Res State := writeIoBit a b true s

/-- CBI, R347. -/
def execCbi (a : BitVec 5) (b : BitVec 3) (s : State) : Res State := writeIoBit a b false s

/-! ### The T flag (R348, R349) -/

/-- BST, R348. -/
def execBst (r : Reg) (b : BitVec 3) (s : State) : Res State :=
  .next ((s.setSreg (putBit s.sreg 6#3 (getBit (s.r r) b))).advance 1)

/-- BLD, R349. -/
def execBld (d : Reg) (b : BitVec 3) (s : State) : Res State :=
  .next ((s.setR d (putBit (s.r d) b (flagT s.sreg))).advance 1)

/-! ### SREG bits (R350 to R367) -/

/-- BSET, R350. -/
def execBset (f : BitVec 3) (s : State) : Res State := writeFlag f true s

/-- BCLR, R351. -/
def execBclr (f : BitVec 3) (s : State) : Res State := writeFlag f false s

/-- SEC, R352. -/
def execSec (s : State) : Res State := writeFlag 0#3 true s

/-- CLC, R353. -/
def execClc (s : State) : Res State := writeFlag 0#3 false s

/-- SEN, R354. -/
def execSen (s : State) : Res State := writeFlag 2#3 true s

/-- CLN, R355. -/
def execCln (s : State) : Res State := writeFlag 2#3 false s

/-- SEZ, R356. -/
def execSez (s : State) : Res State := writeFlag 1#3 true s

/-- CLZ, R357. -/
def execClz (s : State) : Res State := writeFlag 1#3 false s

/-- SEI, R358. -/
def execSei (s : State) : Res State := writeFlag 7#3 true s

/-- CLI, R359. -/
def execCli (s : State) : Res State := writeFlag 7#3 false s

/-- SES, R360: "S is set alone". -/
def execSes (s : State) : Res State := writeFlag 4#3 true s

/-- CLS, R361. -/
def execCls (s : State) : Res State := writeFlag 4#3 false s

/-- SEV, R362. -/
def execSev (s : State) : Res State := writeFlag 3#3 true s

/-- CLV, R363. -/
def execClv (s : State) : Res State := writeFlag 3#3 false s

/-- SET, R364. -/
def execSet (s : State) : Res State := writeFlag 6#3 true s

/-- CLT, R365. -/
def execClt (s : State) : Res State := writeFlag 6#3 false s

/-- SEH, R366. -/
def execSeh (s : State) : Res State := writeFlag 5#3 true s

/-- CLH, R367. -/
def execClh (s : State) : Res State := writeFlag 5#3 false s

end Sys2Proof.Machine
end

