-- ==== Sys2Proof/Machine/Flow.lean ====
section
/-! DEFINITION. The instructions of Table 5-3, change of flow (41_change_of_flow), but for its three compares. None writes a
flag, RETI apart. -/

namespace Sys2Proof.Machine

/-! ### Shared operations -/

/-- `pc <- RelTarget(k)` when `cond`, else `pc <- pc + 1` (R220, R221, R241). -/
def branchIf (cond : Bool) (k : BitVec 7) (s : State) : Res State :=
  if cond then .next (s.setPc (s.relTarget k.toInt)) else .next (s.advance 1)

/-- `PushPC((pc + n) mod 2^PC_BITS); pc <- target`; the target is computed before the push (R207; log 26). -/
def callTo (n target : Nat) (s : State) : Res State :=
  andThen (s.pushPc (s.returnAddr n)) fun t => .next (t.setPc target)

/-- `zext(Z)` (R203, R207). -/
def State.zTarget (s : State) : Nat := (s.pair 30).toNat

/-- `EIND[5:0] : Z` (R204, R208). -/
def State.eindTarget (s : State) : Nat := (s.getEind.extractLsb' 0 6 ++ s.pair 30).toNat

/-- One I/O read, then the skip on bit `b` (R218, R219). -/
def skipIo (a : BitVec 5) (b : BitVec 3) (x : Bool) (s : State) : Res State :=
  (s.ioRead a.toNat).2.skipIf (getBit (s.ioRead a.toNat).1 b == x)

/-! ### Jumps (R202 to R205) -/

/-- RJMP, R202. -/
def execRjmp (k : BitVec 12) (s : State) : Res State := .next (s.setPc (s.relTarget k.toInt))

/-- IJMP, R203. -/
def execIjmp (s : State) : Res State := .next (s.setPc s.zTarget)

/-- EIJMP, R204. -/
def execEijmp (s : State) : Res State := .next (s.setPc s.eindTarget)

/-- JMP, R205. -/
def execJmp (k : BitVec 22) (s : State) : Res State := .next (s.setPc k.toNat)

/-! ### Calls and returns (R206 to R211) -/

/-- RCALL, R206. -/
def execRcall (k : BitVec 12) (s : State) : Res State := callTo 1 (s.relTarget k.toInt) s

/-- ICALL, R207: "Z is read before the push". -/
def execIcall (s : State) : Res State := callTo 1 s.zTarget s

/-- EICALL, R208; EIND and Z are read before the push (log 26). -/
def execEicall (s : State) : Res State := callTo 1 s.eindTarget s

/-- CALL, R209. -/
def execCall (k : BitVec 22) (s : State) : Res State := callTo 2 k.toNat s

/-- RET, R210. -/
def execRet (s : State) : Res State := andThen s.popPc fun (a, t) => .next (t.setPc a)

/-- RETI, R211: `pc <- PopPC(); if RETI_SETS_I then SREG.I <- 1; IrqReturn()`. -/
def execReti (s : State) : Res State :=
  andThen s.popPc fun (a, t) =>
    let u := t.setPc a
    .next (u.setSreg (if s.cfg.retiSetsI then putBit u.sreg 7#3 true else u.sreg)).irqReturn

/-! ### Compare and skip (R212, R216 to R219) -/

/-- CPSE, R212. -/
def execCpse (d r : Reg) (s : State) : Res State := s.skipIf (s.r d == s.r r)

/-- SBRC, R216. -/
def execSbrc (r : Reg) (b : BitVec 3) (s : State) : Res State := s.skipIf (!getBit (s.r r) b)

/-- SBRS, R217. -/
def execSbrs (r : Reg) (b : BitVec 3) (s : State) : Res State := s.skipIf (getBit (s.r r) b)

/-- SBIC, R218. -/
def execSbic (a : BitVec 5) (b : BitVec 3) (s : State) : Res State := skipIo a b false s

/-- SBIS, R219. -/
def execSbis (a : BitVec 5) (b : BitVec 3) (s : State) : Res State := skipIo a b true s

/-! ### Conditional branches (R220 to R239) -/

/-- BRBS, R220. -/
def execBrbs (f : BitVec 3) (k : BitVec 7) (s : State) : Res State := branchIf (getBit s.sreg f) k s

/-- BRBC, R221. -/
def execBrbc (f : BitVec 3) (k : BitVec 7) (s : State) : Res State := branchIf (!getBit s.sreg f) k s

/-- BREQ, R222. -/
def execBreq (k : BitVec 7) (s : State) : Res State := branchIf (flagZ s.sreg) k s

/-- BRNE, R223. -/
def execBrne (k : BitVec 7) (s : State) : Res State := branchIf (!flagZ s.sreg) k s

/-- BRCS, R224. -/
def execBrcs (k : BitVec 7) (s : State) : Res State := branchIf (flagC s.sreg) k s

/-- BRCC, R225. -/
def execBrcc (k : BitVec 7) (s : State) : Res State := branchIf (!flagC s.sreg) k s

/-- BRSH, R226. -/
def execBrsh (k : BitVec 7) (s : State) : Res State := branchIf (!flagC s.sreg) k s

/-- BRLO, R227. -/
def execBrlo (k : BitVec 7) (s : State) : Res State := branchIf (flagC s.sreg) k s

/-- BRMI, R228. -/
def execBrmi (k : BitVec 7) (s : State) : Res State := branchIf (flagN s.sreg) k s

/-- BRPL, R229. -/
def execBrpl (k : BitVec 7) (s : State) : Res State := branchIf (!flagN s.sreg) k s

/-- BRGE, R230. -/
def execBrge (k : BitVec 7) (s : State) : Res State := branchIf (!flagS s.sreg) k s

/-- BRLT, R231. -/
def execBrlt (k : BitVec 7) (s : State) : Res State := branchIf (flagS s.sreg) k s

/-- BRHS, R232. -/
def execBrhs (k : BitVec 7) (s : State) : Res State := branchIf (flagH s.sreg) k s

/-- BRHC, R233. -/
def execBrhc (k : BitVec 7) (s : State) : Res State := branchIf (!flagH s.sreg) k s

/-- BRTS, R234. -/
def execBrts (k : BitVec 7) (s : State) : Res State := branchIf (flagT s.sreg) k s

/-- BRTC, R235. -/
def execBrtc (k : BitVec 7) (s : State) : Res State := branchIf (!flagT s.sreg) k s

/-- BRVS, R236. -/
def execBrvs (k : BitVec 7) (s : State) : Res State := branchIf (flagV s.sreg) k s

/-- BRVC, R237. -/
def execBrvc (k : BitVec 7) (s : State) : Res State := branchIf (!flagV s.sreg) k s

/-- BRIE, R238. -/
def execBrie (k : BitVec 7) (s : State) : Res State := branchIf (flagI s.sreg) k s

/-- BRID, R239. -/
def execBrid (k : BitVec 7) (s : State) : Res State := branchIf (!flagI s.sreg) k s

end Sys2Proof.Machine
end

