-- ==== Sys2Proof/Machine/Mcu.lean ====
section
/-! DEFINITION. The instructions of Table 5-6, MCU control (44_mcu_control). "None of the four changes a general register,
SREG, SP or memory" (R394). An effect that the configuration leaves uninterpreted is refused (R395). -/

namespace Sys2Proof.Machine

/-- BREAK, R390: with a debugger attached the CPU stops, the PC already advanced; else the next word. -/
def execBreak (s : State) : Res State :=
  match s.cfg.breakEffect with
  | .uninterpreted => .refused (.deviceDefined "BREAK")
  | .modelled => .next ({ s with stopped := s.stopped || s.cfg.debugAttached }.advance 1)

/-- NOP, R391. -/
def execNop (s : State) : Res State := .next (s.advance 1)

/-- SLEEP, R392: `pc <- pc + 1; if Io.SleepEnabled() then sleeping <- true` (log 7). -/
def execSleep (s : State) : Res State :=
  match s.cfg.sleepEffect with
  | .uninterpreted => .refused (.deviceDefined "SLEEP")
  | .modelled =>
    .next ({ s with
      sleeping := s.sleeping || s.sleepAnswers.headD true
      sleepAnswers := s.sleepAnswers.tail }.advance 1)

/-- WDR, R393: `pc <- pc + 1; Io.Wdr()`. -/
def execWdr (s : State) : Res State :=
  match s.cfg.wdrEffect with
  | .uninterpreted => .refused (.deviceDefined "WDR")
  | .modelled => .next ((s.event .wdr).advance 1)

end Sys2Proof.Machine
end

