-- ==== Sys2Proof/Machine/Transfer.lean ====
section
/-! DEFINITION. The instructions of Table 5-4, data transfer (42_data_transfer). None changes a flag unless the location it
writes is SREG (R308). -/

namespace Sys2Proof.Machine

/-! ### Moves (R262 to R264) -/

/-- MOV, R262. -/
def execMov (d r : Reg) (s : State) : Res State := .next ((s.setR d (s.r r)).advance 1)

/-- MOVW, R263: "both reads before both writes". -/
def execMovw (d r : Reg) (s : State) : Res State := .next ((s.setPair d (s.pair r)).advance 1)

/-- LDI, R264. -/
def execLdi (d : Reg) (k : BitVec 8) (s : State) : Res State := .next ((s.setR d k).advance 1)

/-! ### Loads (R265 to R277) -/

/-- LDS, R265. -/
def execLds (d : Reg) (k : BitVec 16) (s : State) : Res State := loadAt (s.directAddr k) d 2 s

/-- LDS of AVRrc, R266; `k` is the data address. -/
def execLdsRc (d : Reg) (k : BitVec 8) (s : State) : Res State := loadAt k.toNat d 1 s

/-- LD Rd,X, R267. -/
def execLdX (d : Reg) (s : State) : Res State := loadAt (s.ptrGet .x) d 1 s

/-- LD Rd,X+, R268. -/
def execLdXInc (d : Reg) (s : State) : Res State := loadInc "LD" .x d s

/-- LD Rd,-X, R269. -/
def execLdXDec (d : Reg) (s : State) : Res State := loadDec "LD" .x d s

/-- LD Rd,Y, R270. -/
def execLdY (d : Reg) (s : State) : Res State := loadAt (s.ptrGet .y) d 1 s

/-- LD Rd,Y+, R271. -/
def execLdYInc (d : Reg) (s : State) : Res State := loadInc "LD" .y d s

/-- LD Rd,-Y, R272. -/
def execLdYDec (d : Reg) (s : State) : Res State := loadDec "LD" .y d s

/-- LDD Rd,Y+q, R273. -/
def execLddY (d : Reg) (q : BitVec 6) (s : State) : Res State := loadAt (s.ptrDisp .y q) d 1 s

/-- LD Rd,Z, R274. -/
def execLdZ (d : Reg) (s : State) : Res State := loadAt (s.ptrGet .z) d 1 s

/-- LD Rd,Z+, R275. -/
def execLdZInc (d : Reg) (s : State) : Res State := loadInc "LD" .z d s

/-- LD Rd,-Z, R276. -/
def execLdZDec (d : Reg) (s : State) : Res State := loadDec "LD" .z d s

/-- LDD Rd,Z+q, R277. -/
def execLddZ (d : Reg) (q : BitVec 6) (s : State) : Res State := loadAt (s.ptrDisp .z q) d 1 s

/-! ### Stores (R278 to R290) -/

/-- STS, R278. -/
def execSts (k : BitVec 16) (r : Reg) (s : State) : Res State := storeAt (s.directAddr k) r 2 s

/-- STS of AVRrc, R279; `k` is the data address. -/
def execStsRc (k : BitVec 8) (r : Reg) (s : State) : Res State := storeAt k.toNat r 1 s

/-- ST X,Rr, R280. -/
def execStX (r : Reg) (s : State) : Res State := storeAt (s.ptrGet .x) r 1 s

/-- ST X+,Rr, R281. -/
def execStXInc (r : Reg) (s : State) : Res State := storeInc "ST" .x r s

/-- ST -X,Rr, R282. -/
def execStXDec (r : Reg) (s : State) : Res State := storeDec "ST" .x r s

/-- ST Y,Rr, R283. -/
def execStY (r : Reg) (s : State) : Res State := storeAt (s.ptrGet .y) r 1 s

/-- ST Y+,Rr, R284. -/
def execStYInc (r : Reg) (s : State) : Res State := storeInc "ST" .y r s

/-- ST -Y,Rr, R285. -/
def execStYDec (r : Reg) (s : State) : Res State := storeDec "ST" .y r s

/-- STD Y+q,Rr, R286. -/
def execStdY (q : BitVec 6) (r : Reg) (s : State) : Res State := storeAt (s.ptrDisp .y q) r 1 s

/-- ST Z,Rr, R287. -/
def execStZ (r : Reg) (s : State) : Res State := storeAt (s.ptrGet .z) r 1 s

/-- ST Z+,Rr, R288. -/
def execStZInc (r : Reg) (s : State) : Res State := storeInc "ST" .z r s

/-- ST -Z,Rr, R289. -/
def execStZDec (r : Reg) (s : State) : Res State := storeDec "ST" .z r s

/-- STD Z+q,Rr, R290. -/
def execStdZ (q : BitVec 6) (r : Reg) (s : State) : Res State := storeAt (s.ptrDisp .z q) r 1 s

/-! ### Program memory (R291 to R298) -/

/-- LPM, R291. -/
def execLpmR0 (s : State) : Res State := loadProg s.lpmAddr 0 s

/-- LPM Rd,Z, R292. -/
def execLpmZ (d : Reg) (s : State) : Res State := loadProg s.lpmAddr d s

/-- LPM Rd,Z+, R293: "RAMPZ is not touched". -/
def execLpmZInc (d : Reg) (s : State) : Res State :=
  if Ptr.z.holds d then .fault (.undefinedOperands "LPM")
  else andThen (s.progByte s.lpmAddr) fun v => .next (((s.setPair 30 (s.pair 30 + 1#16)).setR d v).advance 1)

/-- ELPM, R294. -/
def execElpmR0 (s : State) : Res State := loadProg s.elpmAddr 0 s

/-- ELPM Rd,Z, R295. -/
def execElpmZ (d : Reg) (s : State) : Res State := loadProg s.elpmAddr d s

/-- ELPM Rd,Z+, R296: "the increment carries into RAMPZ". -/
def execElpmZInc (d : Reg) (s : State) : Res State :=
  if Ptr.z.holds d then .fault (.undefinedOperands "ELPM")
  else andThen (s.progByte s.elpmAddr) fun v =>
    .next (((s.setElpmAddr ((s.elpmAddr + 1) % 2 ^ 24)).setR d v).advance 1)

/-- SpmEffect(state, RAMPZ:Z, R1:R0), where the configuration gives SPM an effect: the operation of the manual,
`PS(RAMPZ:Z) ← R1:R0`, or what the device does; refused where it gives none (R297; log 13). -/
def spmWrite (s : State) : Res State :=
  match s.cfg.spmEffect with
  | .absent => .refused (.deviceDefined "SPM")
  | .writeWord => s.setProgWord s.elpmAddr (s.pair 0)
  | .device => .next (s.spmDevice s.elpmAddr (s.pair 0))

/-- SPM, R297. -/
def execSpm (s : State) : Res State := andThen (spmWrite s) fun t => .next (t.advance 1)

/-- SPM Z+, R298: `(RAMPZ : Z) <- (RAMPZ : Z) + 2` after the operation. -/
def execSpmZInc (s : State) : Res State :=
  andThen (spmWrite s) fun t => .next ((t.setElpmAddr ((s.elpmAddr + 2) % 2 ^ 24)).advance 1)

/-! ### I/O and stack (R299 to R302) -/

/-- IN, R299. -/
def execIn (d : Reg) (a : BitVec 6) (s : State) : Res State :=
  .next (((s.ioRead a.toNat).2.setR d (s.ioRead a.toNat).1).advance 1)

/-- OUT, R300. -/
def execOut (a : BitVec 6) (r : Reg) (s : State) : Res State := .next ((s.ioWrite a.toNat (s.r r)).advance 1)

/-- PUSH, R301. -/
def execPush (r : Reg) (s : State) : Res State := andThen (s.push (s.r r)) fun t => .next (t.advance 1)

/-- POP, R302. -/
def execPop (d : Reg) (s : State) : Res State := andThen s.pop fun (v, t) => .next ((t.setR d v).advance 1)

/-! ### Read-modify-write (R303 to R307) -/

/-- XCH, R303. -/
def execXch (d : Reg) (s : State) : Res State := rmw "XCH" (fun reg _ => reg) d s

/-- LAS, R304. -/
def execLas (d : Reg) (s : State) : Res State := rmw "LAS" (fun reg old => reg ||| old) d s

/-- LAC, R305. -/
def execLac (d : Reg) (s : State) : Res State := rmw "LAC" (fun reg old => (0xFF#8 - reg) &&& old) d s

/-- LAT, R306. -/
def execLat (d : Reg) (s : State) : Res State := rmw "LAT" (fun reg old => reg ^^^ old) d s

end Sys2Proof.Machine
end

