-- ==== Sys2Proof/Machine/Fetch.lean ====
section
/-! DEFINITION. Fetching and decoding the instruction at the program counter (20_memory R61, 30_encoding R121, R125). -/

namespace Sys2Proof.Machine

/-- Steps 2, 3 and 5 of R125, with R121: the instruction, or why there is none. -/
def decodeAt (c : Config) (w0 w1 : Word) : Res Instr :=
  match decode c.core w0 w1 with
  | .error _ => .fault (.reservedOpcode w0)
  | .ok i => if c.available i then .next i else .fault (.notAvailable i.mnemonic)

/-- The word address after the program counter. -/
def State.nextWord (s : State) : Nat := (s.pc.toNat + 1) % 2 ^ s.cfg.pcBits

/-- The instruction at `pc`; the second word is read only where the first calls for it and is allowed (R125, step 4). -/
def State.fetch (s : State) : Res Instr :=
  andThen (s.progWord s.pc.toNat) fun w0 =>
  andThen (decodeAt s.cfg w0 0#16) fun i =>
  if instrLen s.cfg.core w0 = 2 then andThen (s.progWord s.nextWord) fun w1 => decodeAt s.cfg w0 w1
  else .next i

end Sys2Proof.Machine
end

