-- ==== Sys2Proof/Machine/Step.lean ====
section
/-! DEFINITION. One step of the machine (60_exceptions R406) and the state in which a given instruction comes next. -/

namespace Sys2Proof.Machine

/-- Step: at the boundary a reset, an interrupt or nothing; then, unless the CPU sleeps, one instruction (60_exceptions
R406, 70_reset R441). Time passes in every case (70_reset R460). -/
def step (s : State) : Host.Outcome State Fault Refusal :=
  match s.boundary with
  | .stopped => .fault .stoppedByBreak
  | .reset t => .next (t.charge .unstated)
  | .interrupt n level t => andThen (t.enterIrq n level) fun u => .next (u.charge .unstated)
  | .idle t => .next (t.charge .unstated)
  | .run t => andThen t.fetch fun i => andThen (exec i t) fun u => .next (u.charge (instrCost i t u))

/-- `s` with the instruction whose bits are `w`, as spec/opcode_table.json numbers them, at `pc` (log 11): both words are
written, the one above `nbits` zero; the CPU neither sleeps nor is stopped, and the environment does nothing at this
boundary. -/
def State.withFetchWord (s : State) (nbits w : Nat) : State :=
  let x := w % 2 ^ nbits
  { s with
    prog := (s.prog.setFlashWord s.pc.toNat (BitVec.ofNat 16 x)).setFlashWord s.nextWord (BitVec.ofNat 16 (x / 2 ^ 16))
    sleeping := false
    stopped := false
    env := match s.env with
      | [] => []
      | e :: es => .quiet :: e :: es }

end Sys2Proof.Machine
end

