-- ==== Sys2Proof/Safety.lean ====
section
/-! DEFINITION. What holds of every state of a run, when a run has ended, and the words the statements use: a byte of RAM,
what an instruction may change, the stack's places. -/

namespace Sys2Proof.Machine

/-! ### The invariant -/

/-- The widths of PC and SP that the state can hold (10_state R24, R29). -/
structure Config.Legal (c : Config) : Prop where
  pcBits : c.pcBits ≤ 22
  spBits : c.spBits ≤ 16

/-- The invariant of every step: PC and SP within their widths (10_state R25, R29); a register the device has not reads as
zero (R30); data lists RAM alone, program space words up to FLASHEND alone, both in canonical form; and where the
interrupt controller masks by level, the levels in service fall from the innermost out (60_exceptions R404, R411). -/
structure State.Inv (s : State) : Prop where
  legal : Config.Legal s.cfg
  pc : s.pc.toNat < 2 ^ s.cfg.pcBits
  sp : s.sp.toNat < 2 ^ s.cfg.spBits
  rampx : s.cfg.hasRampx = false → s.rampx = 0#8
  rampy : s.cfg.hasRampy = false → s.rampy = 0#8
  rampz : s.cfg.hasRampz = false → s.rampz = 0#8
  rampd : s.cfg.hasRampd = false → s.rampd = 0#8
  eind : s.cfg.hasEind = false → s.eind = 0#8
  dataWf : Memory.wf s.data = true
  dataRam : ∀ c ∈ s.data, dataLoc s.cfg c.1 = .ram
  progWf : Memory.flashWf s.prog = true
  progEnd : ∀ c ∈ s.prog, c.1 / 2 ≤ s.cfg.flashEnd
  service : s.cfg.core.masksByLevel = true → s.inService.Pairwise fun a b => b.rank < a.rank
  levels : ∀ l ∈ s.inService, l ∈ s.cfg.levels

/-- The end of a run by the convention of 70_reset R449: `pc` is HALT_PC at an instruction boundary and no handler is in
service. -/
def State.ended (haltPc : Nat) (s : State) : Prop := s.pc.toNat = haltPc ∧ s.inService = []

/-! ### One byte of RAM -/

/-- The byte of RAM at an address, none where nothing has been written. -/
def State.ramByte (s : State) (a : Nat) : Option Byte := Memory.lookup a s.data

/-! ### What a step of the machine may change -/

/-- A part of the state that an instruction can write, the PC apart. -/
inductive Part
  | reg (i : Reg)
  | sreg
  | sp
  | rampx
  | rampy
  | rampz
  | rampd
  | eind
  /-- The byte of RAM at a data address. -/
  | ram (a : Nat)
  /-- The byte of program space at a byte address. -/
  | flash (b : Nat)
  | inhibit
  | inService
  | sleeping
  | stopped
  | hist
  | sleepAnswers
  | draws
  deriving DecidableEq, Repr

/-- From `s` to `t` nothing but the parts listed (and the PC) has changed: every other register, SREG, SP, RAMP register and
EIND, every other byte of RAM and of program space, and the rest of the state. -/
structure State.OnlyChanges (s t : State) (parts : List Part) : Prop where
  cfg : t.cfg = s.cfg
  flashMap : t.flashMap = s.flashMap
  env : t.env = s.env
  cyc : t.cyc = s.cyc
  reg : ∀ i, Part.reg i ∉ parts → t.r i = s.r i
  sreg : Part.sreg ∉ parts → t.sreg = s.sreg
  sp : Part.sp ∉ parts → t.sp = s.sp
  rampx : Part.rampx ∉ parts → t.rampx = s.rampx
  rampy : Part.rampy ∉ parts → t.rampy = s.rampy
  rampz : Part.rampz ∉ parts → t.rampz = s.rampz
  rampd : Part.rampd ∉ parts → t.rampd = s.rampd
  eind : Part.eind ∉ parts → t.eind = s.eind
  ram : ∀ a, Part.ram a ∉ parts → t.ramByte a = s.ramByte a
  flash : ∀ b, Part.flash b ∉ parts → t.prog.flashByte b = s.prog.flashByte b
  inhibit : Part.inhibit ∉ parts → t.inhibit = s.inhibit
  inService : Part.inService ∉ parts → t.inService = s.inService
  sleeping : Part.sleeping ∉ parts → t.sleeping = s.sleeping
  stopped : Part.stopped ∉ parts → t.stopped = s.stopped
  hist : Part.hist ∉ parts → t.hist = s.hist
  sleepAnswers : Part.sleepAnswers ∉ parts → t.sleepAnswers = s.sleepAnswers
  draws : Part.draws ∉ parts → t.draws = s.draws

/-- What writing a pointer may change (42_data_transfer R260). -/
def Ptr.parts (p : Ptr) (w : PtrWidth) : List Part :=
  match w with
  | .w8 => [.reg p.lo]
  | .w16 => [.reg p.lo, .reg (p.lo + 1)]
  | .w24 => [.reg p.lo, .reg (p.lo + 1), match p with | .x => .rampx | .y => .rampy | .z => .rampz]

/-- The device has the RAMP register of a pointer. -/
def Config.hasRamp (c : Config) (p : Ptr) : Bool :=
  match p with
  | .x => c.hasRampx
  | .y => c.hasRampy
  | .z => c.hasRampz

/-! ### Places the statements name -/

/-- The PC `n` words on (10_state R25). -/
def State.pcPlus (s : State) (n : Nat) : BitVec 22 := BitVec.ofNat 22 ((s.pc.toNat + n) % 2 ^ s.cfg.pcBits)

/-- `(pc + 1 + k) mod 2^PC_BITS` (41_change_of_flow R200). -/
def State.pcRel (s : State) (k : Int) : BitVec 22 :=
  BitVec.ofNat 22 (((s.pc.toNat : Int) + 1 + k) % (2 ^ s.cfg.pcBits : Nat)).toNat

/-- The data address `j` below SP, where the j-th byte pushed from now goes; `j` is at most 2^16. -/
def State.below (s : State) (j : Nat) : Nat := (s.sp.toNat + 2 ^ 16 - j) % 2 ^ s.cfg.spBits

/-- The data address `j` above SP, where the j-th byte popped from now lies, the first being 1. -/
def State.above (s : State) (j : Nat) : Nat := (s.sp.toNat + j) % 2 ^ s.cfg.spBits

/-- The next `n` bytes pushed go to RAM, and to `n` places (a stack pointer of at least two bits). -/
def State.RoomFor (s : State) (n : Nat) : Prop :=
  2 ≤ s.cfg.spBits ∧ ∀ j < n, dataLoc s.cfg (s.below j) = .ram

/-- The j-th byte popped from now is a byte of RAM that holds `v`. -/
def State.Holds (s : State) (j : Nat) (v : Byte) : Prop :=
  dataLoc s.cfg (s.above j) = .ram ∧ s.ramByte (s.above j) = some v

/-- The bytes pushed one after the other wherever SP points: each by MemWrite at SP, and then SP one down (20_memory R80). -/
def State.pushBytes (s : State) : List Byte → Res State
  | [] => .next s
  | v :: vs => andThen (s.memWrite s.sp.toNat v) fun u =>
    { u with sp := BitVec.ofNat 16 ((u.sp.toNat + 2 ^ 16 - 1) % 2 ^ u.cfg.spBits) }.pushBytes vs

/-- `n` bytes popped one after the other wherever SP points: SP one up, and then MemRead at SP (20_memory R81); the byte
popped first stands first. -/
def State.popBytes (s : State) : Nat → Res (List Byte × State)
  | 0 => .next ([], s)
  | n + 1 =>
    let t := { s with sp := BitVec.ofNat 16 ((s.sp.toNat + 1) % 2 ^ s.cfg.spBits) }
    andThen (t.memRead t.sp.toNat) fun p => andThen (p.2.popBytes n) fun q => .next (p.1 :: q.1, q.2)

/-- The RET_BYTES bytes of a return address in the order of their pushes, least significant first (20_memory R82). -/
def Config.returnBytes (c : Config) (a : Nat) : List Byte := (List.range c.retBytes).map fun j => BitVec.ofNat 8 (a / 256 ^ j)

/-- The number whose bytes these are, most significant first. -/
def bigEndian (bs : List Byte) : Nat := bs.foldl (fun a b => a * 256 + b.toNat) 0

/-- The I/O addresses of 10_state R33, the conventional ones. -/
structure Config.ConventionalIo (c : Config) : Prop where
  sreg : c.sregIo = 0x3F
  spl : c.splIo = 0x3D
  sph : c.sphIo = 0x3E
  rampd : c.rampdIo = 0x38
  rampx : c.rampxIo = 0x39
  rampy : c.rampyIo = 0x3A
  rampz : c.rampzIo = 0x3B
  eind : c.eindIo = 0x3C

/-- The I/O addresses at which the configuration has a CPU register (20_memory R72). -/
def Config.cpuIo (c : Config) : List Nat :=
  [c.sregIo, c.splIo, c.sphIo] ++ (if c.hasRampd then [c.rampdIo] else []) ++
    (if c.hasRampx then [c.rampxIo] else []) ++ (if c.hasRampy then [c.rampyIo] else []) ++
    (if c.hasRampz then [c.rampzIo] else []) ++ (if c.hasEind then [c.eindIo] else [])

/-- The history after one I/O read at `a`: the read is in it where the oracle answered (20_memory R72). -/
def State.histAfterRead (s : State) (a : Nat) : List IoEvent :=
  if a ∈ Config.cpuIo s.cfg then s.hist else s.hist ++ [.read (.io a)]

/-! ### Several instructions in a row, and numbers of several bytes (40_arithmetic_logic R174) -/

/-- The effects of instructions one after the other. -/
def execAll : List Instr → State → Res State
  | [], s => .next s
  | i :: is, s => andThen (exec i s) (execAll is)

/-- The number whose bytes the registers hold, the first the lowest. -/
def State.number (s : State) : List Reg → Nat
  | [] => 0
  | i :: is => (s.r i).toNat + 256 * s.number is

/-- No instruction of a chain over `ps` (destination, source), in order, writes a register that a later one reads. -/
def Apart (ps : List (Reg × Reg)) : Prop := ps.Pairwise fun p q => q.1 ≠ p.1 ∧ q.2 ≠ p.1

/-- The first by `first`, every later byte by `later`. -/
def chain (first later : Reg → Reg → Instr) : List (Reg × Reg) → List Instr
  | [] => []
  | p :: ps => first p.1 p.2 :: ps.map fun q => later q.1 q.2

end Sys2Proof.Machine
end

