-- ==== Sys2Proof/Certificates/Slice0/Obligations.lean ====
section
/-! DEFINITION. The statements for the provers. Each names the rules of spec/ it rests on; OBLIGATIONS.json says which of
them it formalises whole. -/

open Sys2Proof Sys2Proof.Machine

/-! ### Encoding (30_encoding) -/

/-- Decoding an encoded instruction gives its canonical instruction back and leaves the bytes after it (R103 to R108, R115,
R125), on every core that has the instruction; on AVRrc its registers are R16 to R31 (R119). -/
def Obligations.DecodeOfEncode : Prop :=
  ∀ (core : Core) (i : Instr) (rest : List Byte), i.wellFormed = true → core.has i = true →
    (core = .avrrc → i.namesUpperOnly = true) →
    decodeBytes core (encodeBytes i ++ rest) = .ok (i.canonical, rest)

/-- What the decoder answers is a well-formed instruction, and never an alias (R104, R115); and each word is read as one
instruction only, no bit of it dropped: encoding what was decoded gives the words back, as many as the first word's length
says (R100, R101, R107). -/
def Obligations.EncodeOfDecode : Prop :=
  ∀ (core : Core) (w w1 : Word) (i : Instr), decode core w w1 = .ok i →
    i.wellFormed = true ∧ i.canonical = i ∧ encodeFirst i = w ∧
    (core ≠ .avrrc → encode i = if instrLen core w = 2 then [w, w1] else [w])

/-- The groups of R120 as conditions on the word: exactly these first words are reserved on the cores other than AVRrc. -/
def Obligations.ReservedWords : Prop :=
  ∀ (core : Core) (w w1 : Word), core ≠ .avrrc →
    ((decode core w w1 = .error (.reservedWord w)) ↔
      ((w.toNat / 256 = 0x00 ∧ w.toNat ≠ 0) ∨
       (w.toNat / 512 ∈ [0x48, 0x49] ∧ w.toNat % 16 ∈ [3, 8, 11]) ∨
       (w.toNat / 512 = 0x4A ∧ w.toNat % 16 = 4) ∨
       (w.toNat / 256 ∈ [0x94, 0x95] ∧ w.toNat % 16 = 9 ∧ w.toNat / 16 % 16 ∉ [0, 1]) ∨
       (w.toNat / 256 = 0x95 ∧ w.toNat % 16 = 8 ∧ w.toNat / 16 % 16 ∈ [2, 3, 4, 5, 6, 7, 11]) ∨
       (w.toNat / 256 = 0x95 ∧ w.toNat % 16 = 11) ∨
       (w.toNat / 2048 = 0x1F ∧ w.toNat / 8 % 2 = 1)))

/-- Words the spec prints, read as the instructions they stand for (the examples of R145, R147, R205, R206, R213, R220,
R266, R273, R278, R300, R344, R348, R351). -/
def Obligations.DecodeSpecWords : Prop :=
  decode .avrxt 0x0C12#16 0#16 = .ok (.add 1 2) ∧
  decode .avrxt 0x96FF#16 0#16 = .ok (.adiw 30 63#6) ∧
  decode .avrxt 0x940D#16 0x2345#16 = .ok (.jmp 0x012345#22) ∧
  decode .avrxt 0xD005#16 0#16 = .ok (.rcall 5#12) ∧
  decode .avrxt 0x14BC#16 0#16 = .ok (.cp 11 12) ∧
  decode .avrxt 0xF201#16 0#16 = .ok (.brbs 1#3 0x40#7) ∧
  decode .avrrc 0xA100#16 0#16 = .ok (.ldsRc 16 0x40#8) ∧
  decode .avrxt 0xAC4F#16 0#16 = .ok (.lddY 4 63#6) ∧
  decode .avrxt 0x9220#16 0x4001#16 = .ok (.sts 0x4001#16 2) ∧
  decode .avrxt 0xBF0E#16 0#16 = .ok (.out 0x3E#6 16) ∧
  decode .avrxt 0x9515#16 0#16 = .ok (.asr 17) ∧
  decode .avrxt 0xFA35#16 0#16 = .ok (.bst 3 5#3) ∧
  decode .avrxt 0x94F8#16 0#16 = .ok (.bclr 7#3)

/-! ### The step (60_exceptions R406, 30_encoding R125) -/

/-- A step at a boundary with nothing else to do runs the instruction that the words at `pc` decode to, and lets its cycles
pass: `u` is the state the instruction runs in (R61, R125, R406, R460). -/
def Obligations.StepRunsInstruction : Prop :=
  ∀ (s u : State) (w w1 : Word) (i : Instr), s.boundary = .run u →
    u.progWord u.pc.toNat = .next w →
    (instrLen u.cfg.core w = 2 → u.progWord ((u.pc.toNat + 1) % 2 ^ u.cfg.pcBits) = .next w1) →
    decode u.cfg.core w w1 = .ok i → u.cfg.available i = true →
    step s = andThen (exec i u) fun t => .next (t.charge (instrCost i u t))

/-- What a step does at its boundary (R406, 44_mcu R392). It runs an instruction exactly when the CPU is not stopped, no reset
and no granted request stands there and it does not sleep, in the state where the environment's move is taken and the
inhibit cleared. While no request is granted a sleeping CPU executes nothing: every register and memory stays.
The model's choices in it: that a stopped CPU, which has no step, answers the fault stoppedByBreak is log 12; that it does so
even where a reset request stands there, the order of the boundary, and one environment move at each boundary are log 30;
that no step changes the configuration is log 1. -/
def Obligations.StepAtBoundary : Prop :=
  (∀ s u : State, s.boundary = .run u ↔
    (s.stopped = false ∧ s.envHead ≠ .reset ∧ s.granted s.envHead = none ∧ s.sleeping = false ∧
      u = { s.takeEnv with inhibit := false })) ∧
  (∀ s : State, s.stopped = true → step s = .fault .stoppedByBreak) ∧
  (∀ s : State, s.stopped = false → s.sleeping = true → s.envHead ≠ .reset → s.granted s.envHead = none →
    ∃ t, step s = .next t ∧ t.pc = s.pc ∧ t.regs = s.regs ∧ t.sreg = s.sreg ∧ t.sp = s.sp ∧ t.data = s.data ∧
      t.prog = s.prog ∧ t.sleeping = true ∧ t.inService = s.inService ∧ t.hist = s.hist ∧ t.rampx = s.rampx ∧
      t.rampy = s.rampy ∧ t.rampz = s.rampz ∧ t.rampd = s.rampd ∧ t.eind = s.eind) ∧
  (∀ s t : State, step s = .next t → t.cfg = s.cfg)

/-- A reserved word, and an instruction that the core or the device lacks, stop the step by name (R121). The words at `pc`
that need a second word need it only where the instruction is available (R125). "for the AVR128DA64 these are DES, XCH,
LAS, LAC, LAT, EIJMP, EICALL, the AVRrc LDS/STS" (R121, R4). -/
def Obligations.NoSuchInstruction : Prop :=
  (∀ (s u : State) (w : Word), s.boundary = .run u → u.progWord u.pc.toNat = .next w →
    (∀ e, decode u.cfg.core w 0#16 = .error e → step s = .fault (.reservedOpcode w)) ∧
    (∀ i, decode u.cfg.core w 0#16 = .ok i → u.cfg.available i = false →
      step s = .fault (.notAvailable i.mnemonic))) ∧
  (∀ i : Instr, avr128da64.available i = false ↔
    (i.mnemonic ∈ ["DES", "XCH", "LAS", "LAC", "LAT", "EIJMP", "EICALL"] ∨ (∃ d k, i = .ldsRc d k) ∨
      ∃ k r, i = .stsRc k r))

/-! ### The invariant, reset and what no step changes -/

/-- The state after reset meets the invariant (10_state R37). -/
def Obligations.ResetInv : Prop := State.reset.Inv

/-- Every step keeps the invariant: PC and SP stay within their widths, an absent RAMP register stays zero, the memories
stay canonical and within their spaces, the levels in service stay in falling order (R25, R29, R30, R404, R405). -/
def Obligations.StepKeepsInv : Prop := ∀ s t : State, s.Inv → step s = .next t → t.Inv

/-- R63: program space is written through SPM alone. A step that changes it runs SPM or SPM Z+: no other instruction, no
interrupt entry, no reset, no boundary slept through and no move of the environment does; and where SPM has no effect no
step does. -/
def Obligations.StepKeepsProgram : Prop :=
  (∀ s t : State, step s = .next t → t.prog = s.prog ∨
    ∃ u i, s.boundary = .run u ∧ u.fetch = .next i ∧ (i = .spm ∨ i = .spmZInc)) ∧
  (∀ s t : State, step s = .next t → s.cfg.spmEffect = .absent → t.prog = s.prog) ∧
  (∀ (i : Instr) (s t : State), exec i s = .next t → i ≠ .spm → i ≠ .spmZInc → t.prog = s.prog)

/-- What reset leaves on the AVR128DA64, where the spec gives a value (10_state R37, 70_reset R440). -/
def Obligations.ResetValues : Prop :=
  State.reset.pc = 0x0000#22 ∧ State.reset.sreg = 0x00#8 ∧ State.reset.sp = 0x7FFF#16 ∧
  State.reset.rampx = 0x00#8 ∧ State.reset.rampy = 0x00#8 ∧ State.reset.rampz = 0x00#8 ∧
  State.reset.rampd = 0x00#8 ∧ State.reset.eind = 0x00#8 ∧ State.reset.inService = [] ∧
  State.reset.inhibit = false ∧ State.reset.sleeping = false ∧ State.reset.stopped = false ∧
  (∀ a, State.reset.ramByte a = none) ∧ State.reset.hist = []

/-- Where the environment's move is a reset request, the step applies Reset(), also on a sleeping CPU (R440, R441): the reset
values of the configuration, and no byte of RAM holds a value. The model's choices in it: the general registers at zero
(log 2); the program, the configuration and the window stay, and the history goes on with the reset in it (log 6). -/
def Obligations.ResetRequest : Prop :=
  ∀ s : State, s.stopped = false → s.envHead = .reset → ∃ t, step s = .next t ∧
    t.pc = BitVec.ofNat 22 (s.cfg.pcReset % 2 ^ s.cfg.pcBits) ∧ t.sreg = s.cfg.sregReset ∧
    t.sp = BitVec.ofNat 16 (s.cfg.spReset % 2 ^ s.cfg.spBits) ∧
    t.rampx = 0#8 ∧ t.rampy = 0#8 ∧ t.rampz = 0#8 ∧ t.rampd = 0#8 ∧ t.eind = 0#8 ∧
    t.inService = [] ∧ t.inhibit = false ∧ t.sleeping = false ∧ t.stopped = false ∧ (∀ a, t.ramByte a = none) ∧
    (∀ i, t.r i = 0#8) ∧ t.prog = s.prog ∧ t.cfg = s.cfg ∧ t.flashMap = s.flashMap ∧ t.hist = s.hist ++ [.reset]

/-- "no rule's result depends on it": the cycle counter is written and never read (R460). -/
def Obligations.CyclesAreNeverRead : Prop :=
  ∀ (s : State) (n : Nat),
    step { s with cyc := n } = andThen (step s) fun t => .next { t with cyc := n + (t.cyc - s.cyc) }

/-! ### Interrupts (60_exceptions) -/

/-- A request is entered exactly under the conditions (a) to (c) of R404: I set or the level NMI; no inhibit; where the
controller masks by level, no handler of the same or a higher level in service. The vector and the level are ones the
configuration has (log 16). -/
def Obligations.InterruptTaken : Prop :=
  ∀ (s : State) (n : Nat) (level : IrqLevel), s.stopped = false → s.envHead = .irq n level →
    ((∃ u, s.boundary = .interrupt n level u) ↔
      ((flagI s.sreg = true ∨ level = .nmi) ∧ s.inhibit = false ∧
        (s.cfg.core.masksByLevel = true → ∀ l ∈ s.inService, l.rank < level.rank) ∧
        level ∈ s.cfg.levels ∧ 1 ≤ n ∧ ∀ k, s.cfg.ivecCount = some k → n < k))

/-- EnterIrq (R408): the PC is pushed and nothing else, I is cleared where the core does that, the level goes into service,
the PC goes to the vector; a sleeping CPU is awake in the handler (R412). First with room on the stack in RAM; then wherever
the stack lies (R84): the bytes go by MemWrite into I/O space or the register file, and where one cannot be written the step
stops with that fault or refusal, no byte pushed (log 28). -/
def Obligations.InterruptEntry : Prop :=
  (∀ (s u : State) (n : Nat) (level : IrqLevel), s.Inv → s.RoomFor s.cfg.retBytes →
    s.boundary = .interrupt n level u → ∃ t, step s = .next t ∧
      t.ramByte (s.below 0) = some (BitVec.ofNat 8 s.pc.toNat) ∧
      t.ramByte (s.below 1) = some (BitVec.ofNat 8 (s.pc.toNat / 256)) ∧
      (s.cfg.retBytes = 3 → t.ramByte (s.below 2) = some (BitVec.ofNat 8 (s.pc.toNat / 65536))) ∧
      (∀ a, (∀ j < s.cfg.retBytes, a ≠ s.below j) → t.ramByte a = s.ramByte a) ∧
      t.sp.toNat = s.below s.cfg.retBytes ∧
      (∀ j : Nat, j < 8 → t.sreg.getLsbD j = (s.sreg.getLsbD j && !(decide (j = 7) && s.cfg.irqClearsI))) ∧
      t.inService = level :: s.inService ∧ t.sleeping = false ∧ t.inhibit = false ∧
      t.pc = BitVec.ofNat 22 ((s.cfg.ivecBase + n * s.cfg.ivecWords) % 2 ^ s.cfg.pcBits) ∧
      t.regs = s.regs ∧ t.prog = s.prog ∧ t.rampx = s.rampx ∧ t.rampy = s.rampy ∧ t.rampz = s.rampz ∧
      t.rampd = s.rampd ∧ t.eind = s.eind ∧ t.hist = s.hist) ∧
  (∀ (s u : State) (n : Nat) (level : IrqLevel), s.boundary = .interrupt n level u →
    u = { s.takeEnv with inhibit := false, sleeping := false } ∧
    step s = andThen (u.pushBytes (Config.returnBytes s.cfg s.pc.toNat)) fun t => .next ({ t with
      sreg := t.sreg &&& (if s.cfg.irqClearsI then 0x7F#8 else 0xFF#8)
      inService := level :: s.inService
      inhibit := false
      pc := BitVec.ofNat 22 ((s.cfg.ivecBase + n * s.cfg.ivecWords) % 2 ^ s.cfg.pcBits) }.charge .unstated))

/-- An entry and its RETI (R408, R409, R411): whatever the handler did, if at its RETI the stack pointer, the pushed bytes
and the levels in service are what the entry left, the interrupted program goes on where it was, with its stack pointer
and its levels in service as before; the next boundary takes no interrupt (R410). -/
def Obligations.InterruptRoundTrip : Prop :=
  ∀ (s t u : State) (n : Nat) (level : IrqLevel), s.Inv → s.RoomFor s.cfg.retBytes → s.enterIrq n level = .next t →
    u.cfg = t.cfg → u.sp = t.sp → u.inService = t.inService →
    (∀ j < s.cfg.retBytes, u.ramByte (s.below j) = t.ramByte (s.below j)) →
    ∃ v, exec .reti u = .next v ∧ v.pc = s.pc ∧ v.sp = s.sp ∧ v.inService = s.inService ∧
      v.inhibit = true ∧ v.regs = u.regs ∧
      (∀ j : Nat, j < 7 → v.sreg.getLsbD j = u.sreg.getLsbD j) ∧
      flagI v.sreg = (flagI u.sreg || s.cfg.retiSetsI)

/-- The inhibit of R410: SEI, BSET 7, and every store to SREG (R300, R402), by OUT, by ST, STD or STS in any form to its data
address, or by PUSH there (that PUSH counts as such a store is log 17), leave it set where they take I from 0 to 1, and RETI
always does; while it is set the next boundary takes no interrupt, and runs one instruction where the CPU is awake. -/
def Obligations.InhibitAfterEnable : Prop :=
  (∀ (i : Instr) (s t : State) (r : Reg), i ∈ [.sei, .bset 7#3, .out (BitVec.ofNat 6 s.cfg.sregIo) r] →
    s.cfg.sregIo < 64 → flagI s.sreg = false → exec i s = .next t → flagI t.sreg = true → t.inhibit = true) ∧
  (∀ (i : Instr) (x : Nat) (s t : State) (r : Reg) (k : BitVec 16) (k8 : BitVec 8) (q : BitVec 6), (i, x) ∈ [
      (.sts k r, s.directAddr k), (.stsRc k8 r, k8.toNat), (.stX r, s.ptrGet .x), (.stXInc r, s.ptrGet .x),
      (.stXDec r, s.ptrDown .x), (.stY r, s.ptrGet .y), (.stYInc r, s.ptrGet .y), (.stYDec r, s.ptrDown .y),
      (.stdY q r, s.ptrDisp .y q), (.stZ r, s.ptrGet .z), (.stZInc r, s.ptrGet .z), (.stZDec r, s.ptrDown .z),
      (.stdZ q r, s.ptrDisp .z q), (.push r, s.sp.toNat)] →
    dataLoc s.cfg x = .io s.cfg.sregIo → flagI s.sreg = false → exec i s = .next t → flagI t.sreg = true →
      t.inhibit = true) ∧
  (∀ s t : State, exec .reti s = .next t → t.inhibit = true) ∧
  (∀ s : State, s.inhibit = true → s.stopped = false → s.envHead ≠ .reset → s.sleeping = false →
    s.boundary = .run { s.takeEnv with inhibit := false })

/-- "Maximum hardware nesting depth 3" on the AVR128DA64 (R411). -/
def Obligations.NestingDepth : Prop :=
  ∀ s : State, s.Inv → s.cfg = avr128da64 → s.inService.length ≤ 3

/-! ### Memory (20_memory) -/

/-- A byte written to RAM is read back, every other byte of RAM reads as before, and the list stays canonical (R70, R71,
R87). -/
def Obligations.RamReadAfterWrite : Prop :=
  ∀ (s t : State) (a : Nat) (v : Byte), dataLoc s.cfg a = .ram → s.memWrite a v = .next t →
    t.memRead a = .next (v, t) ∧ s.OnlyChanges t [.ram a] ∧
    (Memory.wf s.data = true → Memory.wf t.data = true)

/-- What a read of data space gives (R70) and a write of it does (R71) for each class of address; a byte of RAM never written
is a fresh free value (10_state R37; log 3). The byte of a window is that of 20_memory R74 on the AVR128DA64; that one
flashMap moves the windows of every configuration by their strides is the model's choice (log 33). -/
def Obligations.DataReadByClass : Prop :=
  ∀ (s : State) (a : Nat),
    (∀ v, dataLoc s.cfg a = .ram → s.ramByte a = some v → s.memRead a = .next (v, s)) ∧
    (dataLoc s.cfg a = .ram → s.ramByte a = none →
      s.memRead a = .next (Config.ramDraw s.draws, { s with draws := s.draws + 1 })) ∧
    (∀ i, dataLoc s.cfg a = .reg i → s.memRead a = .next (s.r i, s)) ∧
    (∀ p, dataLoc s.cfg a = .io p → s.memRead a = .next (s.ioRead p)) ∧
    (∀ o n, dataLoc s.cfg a = .progWindow o n → (s.flashMap.toNat * n + o) / 2 ≤ s.cfg.flashEnd →
      s.memRead a = .next (s.prog.flashByte (s.flashMap.toNat * n + o), s)) ∧
    (∀ o n, dataLoc s.cfg a = .progWindow o n → s.cfg.flashEnd < (s.flashMap.toNat * n + o) / 2 →
      s.memRead a = .fault (.unmappedProgram ((s.flashMap.toNat * n + o) / 2))) ∧
    (dataLoc s.cfg a = .other →
      s.memRead a = .next (Config.ioAnswer s.hist (.other a), { s with hist := s.hist ++ [.read (.other a)] })) ∧
    (dataLoc s.cfg a = .unmapped → s.memRead a = .fault (.unmappedData a)) ∧
    (∀ v : Byte,
      (dataLoc s.cfg a = .ram → ∃ t, s.memWrite a v = .next t ∧ t.ramByte a = some v ∧ t.pc = s.pc ∧
        s.OnlyChanges t [.ram a]) ∧
      (∀ i, dataLoc s.cfg a = .reg i → ∃ t, s.memWrite a v = .next t ∧ t.r i = v ∧ t.pc = s.pc ∧
        s.OnlyChanges t [.reg i]) ∧
      (∀ p, dataLoc s.cfg a = .io p → s.memWrite a v = .next (s.ioWrite p v)) ∧
      (∀ o n, dataLoc s.cfg a = .progWindow o n →
        s.memWrite a v = .refused (.deviceDefined "store to mapped Flash")) ∧
      (dataLoc s.cfg a = .other →
        s.memWrite a v = .next { s with hist := s.hist ++ [.write (.other a) v] }) ∧
      (dataLoc s.cfg a = .unmapped → s.memWrite a v = .fault (.unmappedData a)))

/-- The data map of the AVR128DA64, address by address (R73, R74). -/
def Obligations.Avr128DataMap : Prop :=
  ∀ a : Nat,
    (a ≤ 0x003F → dataLoc avr128da64 a = .io a) ∧
    (0x0040 ≤ a → a ≤ 0x15FF → dataLoc avr128da64 a = .other) ∧
    (0x1600 ≤ a → a ≤ 0x3FFF → dataLoc avr128da64 a = .unmapped) ∧
    (0x4000 ≤ a → a ≤ 0x7FFF → dataLoc avr128da64 a = .ram) ∧
    (0x8000 ≤ a → a ≤ 0xFFFF → dataLoc avr128da64 a = .progWindow (a - 0x8000) 0x8000)

/-- The CPU registers in I/O space, at the addresses of 10_state R33: what is written is what is there and what is read
back; SP a byte at a time; a RAMP register or EIND only where the device has it, one it has not "reads as zero and
ignores writes"; no other address touches the CPU (R29, R30, R72). -/
def Obligations.IoRegisters : Prop :=
  ∀ (s : State) (v : Byte), s.Inv → Config.ConventionalIo s.cfg →
    (s.ioRead 0x3F = (s.sreg, s) ∧ (s.ioWrite 0x3F v).sreg = v ∧
      s.OnlyChanges (s.ioWrite 0x3F v) [.sreg, .inhibit]) ∧
    ((s.ioRead 0x3D).1.toNat = s.sp.toNat % 256 ∧ (s.ioRead 0x3E).1.toNat = s.sp.toNat / 256 ∧
      (s.ioWrite 0x3D v).sp.toNat = (s.sp.toNat / 256 * 256 + v.toNat) % 2 ^ s.cfg.spBits ∧
      (s.ioWrite 0x3E v).sp.toNat = (v.toNat * 256 + s.sp.toNat % 256) % 2 ^ s.cfg.spBits ∧
      s.OnlyChanges (s.ioWrite 0x3D v) [.sp] ∧ s.OnlyChanges (s.ioWrite 0x3E v) [.sp]) ∧
    (s.cfg.hasRampz = true → s.ioRead 0x3B = (s.rampz, s) ∧ (s.ioWrite 0x3B v).rampz = v ∧
      s.OnlyChanges (s.ioWrite 0x3B v) [.rampz]) ∧
    (s.cfg.hasRampx = true → s.ioRead 0x39 = (s.rampx, s) ∧ (s.ioWrite 0x39 v).rampx = v ∧
      s.OnlyChanges (s.ioWrite 0x39 v) [.rampx]) ∧
    (s.cfg.hasRampy = true → s.ioRead 0x3A = (s.rampy, s) ∧ (s.ioWrite 0x3A v).rampy = v ∧
      s.OnlyChanges (s.ioWrite 0x3A v) [.rampy]) ∧
    (s.cfg.hasRampd = true → s.ioRead 0x38 = (s.rampd, s) ∧ (s.ioWrite 0x38 v).rampd = v ∧
      s.OnlyChanges (s.ioWrite 0x38 v) [.rampd]) ∧
    (s.cfg.hasEind = true → s.ioRead 0x3C = (s.eind, s) ∧ (s.ioWrite 0x3C v).eind = v ∧
      s.OnlyChanges (s.ioWrite 0x3C v) [.eind]) ∧
    (∀ a, a ∉ Config.cpuIo s.cfg →
      s.ioRead a = (Config.ioAnswer s.hist (.io a), { s with hist := s.hist ++ [.read (.io a)] }) ∧
      s.ioWrite a v = { s with hist := s.hist ++ [.write (.io a) v] }) ∧
    (s.cfg.hasRampx = false → s.getRampx = 0#8 ∧ s.setRampx v = s) ∧
    (s.cfg.hasRampy = false → s.getRampy = 0#8 ∧ s.setRampy v = s) ∧
    (s.cfg.hasRampz = false → s.getRampz = 0#8 ∧ s.setRampz v = s) ∧
    (s.cfg.hasRampd = false → s.getRampd = 0#8 ∧ s.setRampd v = s) ∧
    (s.cfg.hasEind = false → s.getEind = 0#8 ∧ s.setEind v = s)

/-- The pointers as numbers, at the three widths, and the addresses formed from them: displacement, increment and decrement
wrap at the pointer's width (10_state R21, 42_data_transfer R260, R265). -/
def Obligations.PointerArithmetic : Prop :=
  ∀ (s : State) (p : Ptr) (q : BitVec 6) (k : BitVec 16),
    (s.cfg.ptrWidth = .w8 → s.ptrGet p = (s.r p.lo).toNat ∧ s.directAddr k = k.toNat) ∧
    (s.cfg.ptrWidth = .w16 →
      s.ptrGet p = (s.r (p.lo + 1)).toNat * 256 + (s.r p.lo).toNat ∧ s.directAddr k = k.toNat) ∧
    (s.cfg.ptrWidth = .w24 →
      s.ptrGet p = (s.ramp p).toNat * 65536 + (s.r (p.lo + 1)).toNat * 256 + (s.r p.lo).toNat ∧
      s.directAddr k = s.getRampd.toNat * 65536 + k.toNat) ∧
    s.ptrDisp p q = (s.ptrGet p + q.toNat) % 2 ^ s.cfg.ptrWidth.bits ∧
    ((s.ptrGet p : Int) + 1) % (2 ^ s.cfg.ptrWidth.bits : Nat) = s.ptrUp p ∧
    ((s.ptrGet p : Int) - 1) % (2 ^ s.cfg.ptrWidth.bits : Nat) = s.ptrDown p

/-! ### Arithmetic and logic (40_arithmetic_logic) -/

/-- ADD and ADC (R140, R145, R146): the sum mod 256 and its flags, as arithmetic; the source and every other part stays. -/
def Obligations.AddResult : Prop :=
  ∀ (s : State) (d r : Reg), ∀ p ∈ [(Instr.add d r, false), (Instr.adc d r, flagC s.sreg)],
    ∃ t, exec p.1 s = .next t ∧
      let a := (s.r d).toNat; let b := (s.r r).toNat; let c := p.2.toNat
      let x : Int := (s.r d).toInt + (s.r r).toInt + c
      let v := decide (x < -128 ∨ 127 < x)
      (t.r d).toNat = (a + b + c) % 256 ∧
      t.sreg = sregOf (flagI s.sreg) (flagT s.sreg) (decide (16 ≤ a % 16 + b % 16 + c)) ((t.r d).msb ^^ v) v
        (t.r d).msb (decide ((a + b + c) % 256 = 0)) (decide (256 ≤ a + b + c)) ∧
      t.pc = s.pcPlus 1 ∧ s.OnlyChanges t [.reg d, .sreg]

/-- SUB, SUBI, SBC and SBCI (R141, R148 to R151): the difference mod 256 and its flags, as arithmetic; with carry, Z can
only be cleared. -/
def Obligations.SubtractResult : Prop :=
  ∀ (s : State) (d r : Reg) (k : BitVec 8),
    ∀ p ∈ [(Instr.sub d r, s.r r, false, true), (Instr.subi d k, k, false, true),
      (Instr.sbc d r, s.r r, flagC s.sreg, flagZ s.sreg), (Instr.sbci d k, k, flagC s.sreg, flagZ s.sreg)],
    ∃ t, exec p.1 s = .next t ∧
      let a := (s.r d).toNat; let b := p.2.1.toNat; let c := p.2.2.1.toNat
      let x : Int := (s.r d).toInt - p.2.1.toInt - c
      let v := decide (x < -128 ∨ 127 < x)
      (t.r d).toNat = (a + 512 - b - c) % 256 ∧
      t.sreg = sregOf (flagI s.sreg) (flagT s.sreg) (decide (a % 16 < b % 16 + c)) ((t.r d).msb ^^ v) v
        (t.r d).msb (decide ((t.r d).toNat = 0) && p.2.2.2) (decide (a < b + c)) ∧
      t.pc = s.pcPlus 1 ∧ s.OnlyChanges t [.reg d, .sreg]

/-- CP, CPC and CPI (R213 to R215): the flags of the subtraction; no register is written. -/
def Obligations.CompareResult : Prop :=
  ∀ (s : State) (d r : Reg) (k : BitVec 8),
    ∀ p ∈ [(Instr.cp d r, s.r r, false, true), (Instr.cpi d k, k, false, true),
      (Instr.cpc d r, s.r r, flagC s.sreg, flagZ s.sreg)],
    ∃ t, exec p.1 s = .next t ∧
      let a := (s.r d).toNat; let b := p.2.1.toNat; let c := p.2.2.1.toNat
      let x : Int := (s.r d).toInt - p.2.1.toInt - c
      let v := decide (x < -128 ∨ 127 < x)
      let n := decide (128 ≤ (a + 512 - b - c) % 256)
      t.sreg = sregOf (flagI s.sreg) (flagT s.sreg) (decide (a % 16 < b % 16 + c)) (n ^^ v) v n
        (decide ((a + 512 - b - c) % 256 = 0) && p.2.2.2) (decide (a < b + c)) ∧
      t.pc = s.pcPlus 1 ∧ s.OnlyChanges t [.sreg]

/-- What C, Z, S, N and V say after CP, CPI, SUB and SUBI with operands a and b (R175, an inference of the spec
from R141). -/
def Obligations.CompareMeansOrder : Prop :=
  ∀ (s t : State) (d r : Reg) (k : BitVec 8),
    ∀ p ∈ [(Instr.cp d r, s.r r), (Instr.cpi d k, k), (Instr.sub d r, s.r r), (Instr.subi d k, k)],
    exec p.1 s = .next t →
      (flagC t.sreg = true ↔ (s.r d).toNat < p.2.toNat) ∧
      (flagZ t.sreg = true ↔ s.r d = p.2) ∧
      (flagS t.sreg = true ↔ (s.r d).toInt < p.2.toInt) ∧
      (flagN t.sreg = (s.r d - p.2).msb) ∧
      (flagV t.sreg = true ↔ ¬ (-128 ≤ (s.r d).toInt - p.2.toInt ∧ (s.r d).toInt - p.2.toInt ≤ 127))

/-- ADIW and SBIW (R147, R152): the pair and its flags, as 16-bit arithmetic; H stays. -/
def Obligations.WordImmediateResult : Prop :=
  ∀ (s : State) (d : Reg) (k : BitVec 6),
    ∀ p ∈ [(Instr.adiw d k, (k.toNat : Int)), (Instr.sbiw d k, -(k.toNat : Int))],
    ∃ t, exec p.1 s = .next t ∧
      let a := (s.pair d).toNat
      let x : Int := (s.pair d).toInt + p.2
      let v := decide (x < -32768 ∨ 32767 < x)
      ((t.pair d).toNat : Int) = ((a : Int) + p.2) % 65536 ∧
      t.sreg = sregOf (flagI s.sreg) (flagT s.sreg) (flagH s.sreg) ((t.pair d).msb ^^ v) v (t.pair d).msb
        (decide (t.pair d = 0#16)) (decide ((a : Int) + p.2 < 0 ∨ 65535 < (a : Int) + p.2)) ∧
      t.pc = s.pcPlus 1 ∧ s.OnlyChanges t [.reg d, .reg (d + 1), .sreg]

/-- AND, ANDI, OR, ORI, EOR and SBR, CBR, TST, CLR (R142, R153 to R157, R160, R161, R164, R165): the result bit by bit,
V cleared, S equal to N, and H, C, T, I kept. -/
def Obligations.LogicResult : Prop :=
  ∀ (s : State) (d r : Reg) (k : BitVec 8), ∀ p ∈ [
      (Instr.and d r, fun j => (s.r d).getLsbD j && (s.r r).getLsbD j),
      (Instr.andi d k, fun j => (s.r d).getLsbD j && k.getLsbD j),
      (Instr.or d r, fun j => (s.r d).getLsbD j || (s.r r).getLsbD j),
      (Instr.ori d k, fun j => (s.r d).getLsbD j || k.getLsbD j),
      (Instr.eor d r, fun j => (s.r d).getLsbD j ^^ (s.r r).getLsbD j),
      (Instr.sbr d k, fun j => (s.r d).getLsbD j || k.getLsbD j),
      (Instr.cbr d k, fun j => (s.r d).getLsbD j && !k.getLsbD j),
      (Instr.tst d, fun j => (s.r d).getLsbD j),
      (Instr.clr d, fun _ => false)],
    ∃ t, exec p.1 s = .next t ∧ (∀ j : Nat, j < 8 → (t.r d).getLsbD j = p.2 j) ∧
      t.sreg = sregOf (flagI s.sreg) (flagT s.sreg) (flagH s.sreg) (p.2 7) false (p.2 7)
        (decide (∀ j : Nat, j < 8 → p.2 j = false)) (flagC s.sreg) ∧
      t.pc = s.pcPlus 1 ∧ s.OnlyChanges t [.reg d, .sreg]

/-- COM, NEG, INC and DEC (R158, R159, R162, R163) as arithmetic: V says that the signed result does not fit, except that
COM clears it; INC and DEC keep C and H, COM keeps H. -/
def Obligations.OneOperandResult : Prop :=
  ∀ (s : State) (d : Reg),
    let a := (s.r d).toNat
    ∀ p ∈ [
      (Instr.com d, 255 - a, false, flagH s.sreg, true),
      (Instr.neg d, (256 - a) % 256, decide (a = 128), decide (a % 16 ≠ 0), decide (a ≠ 0)),
      (Instr.inc d, (a + 1) % 256, decide (a = 127), flagH s.sreg, flagC s.sreg),
      (Instr.dec d, (a + 255) % 256, decide (a = 128), flagH s.sreg, flagC s.sreg)],
    ∃ t, exec p.1 s = .next t ∧ (t.r d).toNat = p.2.1 ∧
      t.sreg = sregOf (flagI s.sreg) (flagT s.sreg) p.2.2.2.1 ((t.r d).msb ^^ p.2.2.1) p.2.2.1 (t.r d).msb
        (decide (p.2.1 = 0)) p.2.2.2.2 ∧
      t.pc = s.pcPlus 1 ∧ s.OnlyChanges t [.reg d, .sreg]

/-- MUL, MULS and MULSU (R167 to R169): the product mod 65536 in R1:R0, C its bit 15, Z; the operands may be R0 and R1. -/
def Obligations.MultiplyResult : Prop :=
  ∀ (s : State) (d r : Reg), ∀ p ∈ [
      (Instr.mul d r, ((s.r d).toNat : Int) * ((s.r r).toNat : Int)),
      (Instr.muls d r, (s.r d).toInt * (s.r r).toInt),
      (Instr.mulsu d r, (s.r d).toInt * ((s.r r).toNat : Int))],
    ∃ t, exec p.1 s = .next t ∧
      ((t.r 1).toNat : Int) * 256 + ((t.r 0).toNat : Int) = p.2 % 65536 ∧
      t.sreg = sregOf (flagI s.sreg) (flagT s.sreg) (flagH s.sreg) (flagS s.sreg) (flagV s.sreg) (flagN s.sreg)
        (decide (p.2 = 0)) (decide (32768 ≤ p.2 % 65536)) ∧
      t.pc = s.pcPlus 1 ∧ s.OnlyChanges t [.reg 0, .reg 1, .sreg]

/-- FMUL, FMULS and FMULSU (R170 to R172): the product shifted left once in R1:R0, C its bit 15 before the shift, Z after
it. -/
def Obligations.FractionalResult : Prop :=
  ∀ (s : State) (d r : Reg), ∀ p ∈ [
      (Instr.fmul d r, ((s.r d).toNat : Int) * ((s.r r).toNat : Int)),
      (Instr.fmuls d r, (s.r d).toInt * (s.r r).toInt),
      (Instr.fmulsu d r, (s.r d).toInt * ((s.r r).toNat : Int))],
    ∃ t, exec p.1 s = .next t ∧
      ((t.r 1).toNat : Int) * 256 + ((t.r 0).toNat : Int) = (2 * p.2) % 65536 ∧
      t.sreg = sregOf (flagI s.sreg) (flagT s.sreg) (flagH s.sreg) (flagS s.sreg) (flagV s.sreg) (flagN s.sreg)
        (decide (2 * p.2 % 65536 = 0)) (decide (32768 ≤ p.2 % 65536)) ∧
      t.pc = s.pcPlus 1 ∧ s.OnlyChanges t [.reg 0, .reg 1, .sreg]

/-- DES (R173): one round of R15:R0 by the free DesRound, with K and H, whatever that round is (log 14); no flag. -/
def Obligations.DesResult : Prop :=
  ∀ (s : State) (k : BitVec 4), ∃ t, exec (.des k) s = .next t ∧
    t.block = Config.desRound s.block k (flagH s.sreg) ∧ t.pc = s.pcPlus 1 ∧
    s.OnlyChanges t (lowRegs.map Part.reg)

/-- Which instructions of Table 5-2 leave C and H unchanged; none changes T or I (R176, an inference of the spec; R28). -/
def Obligations.KeptFlags : Prop :=
  ∀ (s t : State) (d r : Reg) (k : BitVec 8) (k6 : BitVec 6) (k4 : BitVec 4) (i : Instr), exec i s = .next t →
    (i ∈ [.and d r, .andi d k, .or d r, .ori d k, .eor d r, .sbr d k, .cbr d k, .inc d, .dec d, .tst d, .clr d,
      .ser d, .des k4] → flagC t.sreg = flagC s.sreg) ∧
    (i ∈ [.adiw d k6, .sbiw d k6, .and d r, .andi d k, .or d r, .ori d k, .eor d r, .com d, .sbr d k, .cbr d k,
      .inc d, .dec d, .tst d, .clr d, .ser d, .mul d r, .muls d r, .mulsu d r, .fmul d r, .fmuls d r, .fmulsu d r,
      .des k4] → flagH t.sreg = flagH s.sreg) ∧
    (i ∈ [.add d r, .adc d r, .adiw d k6, .sub d r, .subi d k, .sbc d r, .sbci d k, .sbiw d k6, .and d r, .andi d k,
      .or d r, .ori d k, .eor d r, .com d, .neg d, .sbr d k, .cbr d k, .inc d, .dec d, .tst d, .clr d, .ser d,
      .mul d r, .muls d r, .mulsu d r, .fmul d r, .fmuls d r, .fmulsu d r, .des k4] →
      flagT t.sreg = flagT s.sreg ∧ flagI t.sreg = flagI s.sreg)

/-- Addition and subtraction of numbers of any number of bytes: ADD then ADCs, SUB then SBCs, CP then CPCs. `A` and
`B` are the numbers in the destination and the source registers (R174, an inference of the spec from R140, R141).
Of R174 it states the chains of register instructions, their result and their C, and Z for the last two. -/
def Obligations.MultiByteArithmetic : Prop :=
  ∀ (s : State) (ps : List (Reg × Reg)), ps ≠ [] → Apart ps →
    let A := s.number (ps.map Prod.fst); let B := s.number (ps.map Prod.snd); let M := 256 ^ ps.length
    (∃ t, execAll (chain .add .adc ps) s = .next t ∧
      t.number (ps.map Prod.fst) = (A + B) % M ∧ (flagC t.sreg = true ↔ M ≤ A + B)) ∧
    (∃ t, execAll (chain .sub .sbc ps) s = .next t ∧
      t.number (ps.map Prod.fst) = (A + M - B) % M ∧ (flagC t.sreg = true ↔ A < B) ∧
      (flagZ t.sreg = true ↔ A = B)) ∧
    (∃ t, execAll (chain .cp .cpc ps) s = .next t ∧ t.regs = s.regs ∧ (flagC t.sreg = true ↔ A < B) ∧
      (flagZ t.sreg = true ↔ A = B))

/-- An alias "has exactly the canonical semantics, including flags", and the same words (R115). -/
def Obligations.AliasesAreCanonical : Prop :=
  ∀ (i : Instr) (s : State), i.wellFormed = true → exec i s = exec i.canonical s ∧ encode i = encode i.canonical

/-! ### Bits (43_bit_and_bit_test) -/

/-- LSL, LSR, ROL, ROR and ASR (R339 to R344): the result as arithmetic, C the bit shifted out, V = N ⊕ C, S = N ⊕ V; the
right shifts keep H, the left ones take old bit 3. -/
def Obligations.ShiftResult : Prop :=
  ∀ (s : State) (d : Reg),
    let a := (s.r d).toNat; let c := (flagC s.sreg).toNat
    ∀ p ∈ [
      (Instr.lsl d, 2 * a % 256, decide (128 ≤ a), decide (8 ≤ a % 16)),
      (Instr.rol d, (2 * a + c) % 256, decide (128 ≤ a), decide (8 ≤ a % 16)),
      (Instr.lsr d, a / 2, decide (a % 2 = 1), flagH s.sreg),
      (Instr.ror d, a / 2 + 128 * c, decide (a % 2 = 1), flagH s.sreg),
      (Instr.asr d, a / 2 + a / 128 * 128, decide (a % 2 = 1), flagH s.sreg)],
    ∃ t, exec p.1 s = .next t ∧ (t.r d).toNat = p.2.1 ∧
      (let n := decide (128 ≤ p.2.1); let v := n ^^ p.2.2.1
        t.sreg = sregOf (flagI s.sreg) (flagT s.sreg) p.2.2.2 (n ^^ v) v n (decide (p.2.1 = 0)) p.2.2.1) ∧
      t.pc = s.pcPlus 1 ∧ s.OnlyChanges t [.reg d, .sreg]

/-- BSET, BCLR and their sixteen aliases (R350 to R368): the named flag takes the value, every other bit of SREG stays; I
going from 0 to 1 sets the inhibit (R410). -/
def Obligations.FlagSetAndClear : Prop :=
  ∀ (s : State) (f : BitVec 3), ∀ p ∈ [
      (Instr.bset f, f.toNat, true), (.bclr f, f.toNat, false),
      (.sec, 0, true), (.clc, 0, false), (.sez, 1, true), (.clz, 1, false), (.sen, 2, true), (.cln, 2, false),
      (.sev, 3, true), (.clv, 3, false), (.ses, 4, true), (.cls, 4, false), (.seh, 5, true), (.clh, 5, false),
      (.set, 6, true), (.clt, 6, false), (.sei, 7, true), (.cli, 7, false)],
    ∃ t, exec p.1 s = .next t ∧
      (∀ j : Nat, j < 8 → t.sreg.getLsbD j = if j = p.2.1 then p.2.2 else s.sreg.getLsbD j) ∧
      t.inhibit = (s.inhibit || (!flagI s.sreg && flagI t.sreg)) ∧
      t.pc = s.pcPlus 1 ∧ s.OnlyChanges t [.sreg, .inhibit]

/-- BST and BLD (R348, R349): one bit between a register and T; SWAP (R345) the two halves of a byte, no flag. -/
def Obligations.BitTransferAndSwap : Prop :=
  ∀ (s : State) (d : Reg) (b : BitVec 3),
    (∃ t, exec (.bst d b) s = .next t ∧
      (∀ j : Nat, j < 8 → t.sreg.getLsbD j = if j = 6 then (s.r d).getLsbD b.toNat else s.sreg.getLsbD j) ∧
      t.pc = s.pcPlus 1 ∧ s.OnlyChanges t [.sreg]) ∧
    (∃ t, exec (.bld d b) s = .next t ∧
      (∀ j : Nat, j < 8 → (t.r d).getLsbD j = if j = b.toNat then flagT s.sreg else (s.r d).getLsbD j) ∧
      t.pc = s.pcPlus 1 ∧ s.OnlyChanges t [.reg d]) ∧
    (∃ t, exec (.swap d) s = .next t ∧
      (t.r d).toNat = (s.r d).toNat % 16 * 16 + (s.r d).toNat / 16 ∧
      t.pc = s.pcPlus 1 ∧ s.OnlyChanges t [.reg d])

/-- SBI and CBI (R346, R347): one I/O read, then a write of the byte with the one bit set or cleared, both recorded; no
register and no flag changes (10_state R33: the CPU's own I/O registers lie above the reach of the five-bit address). -/
def Obligations.IoBitWrite : Prop :=
  ∀ (s : State) (a : BitVec 5) (b : BitVec 3), Config.ConventionalIo s.cfg →
    ∀ p ∈ [(Instr.sbi a b, true), (Instr.cbi a b, false)],
    ∃ t w, exec p.1 s = .next t ∧
      (∀ j : Nat, j < 8 → BitVec.getLsbD (w := 8) w j =
        if j = b.toNat then p.2 else (Config.ioAnswer s.hist (.io a.toNat)).getLsbD j) ∧
      t.hist = s.hist ++ [.read (.io a.toNat), .write (.io a.toNat) w] ∧
      t.pc = s.pcPlus 1 ∧ s.OnlyChanges t [.hist]

/-! ### Change of flow (41_change_of_flow) -/

/-- Every conditional branch (R220 to R239, R241): taken exactly on its SREG bit, to `pc + 1 + k` mod 2^PC_BITS (R200);
nothing but the PC changes. -/
def Obligations.BranchResult : Prop :=
  ∀ (s : State) (f : BitVec 3) (k : BitVec 7), ∀ p ∈ [
      (Instr.brbs f k, s.sreg.getLsbD f.toNat), (.brbc f k, !s.sreg.getLsbD f.toNat),
      (.brcs k, s.sreg.getLsbD 0), (.brlo k, s.sreg.getLsbD 0),
      (.brcc k, !s.sreg.getLsbD 0), (.brsh k, !s.sreg.getLsbD 0),
      (.breq k, s.sreg.getLsbD 1), (.brne k, !s.sreg.getLsbD 1),
      (.brmi k, s.sreg.getLsbD 2), (.brpl k, !s.sreg.getLsbD 2),
      (.brvs k, s.sreg.getLsbD 3), (.brvc k, !s.sreg.getLsbD 3),
      (.brlt k, s.sreg.getLsbD 4), (.brge k, !s.sreg.getLsbD 4),
      (.brhs k, s.sreg.getLsbD 5), (.brhc k, !s.sreg.getLsbD 5),
      (.brts k, s.sreg.getLsbD 6), (.brtc k, !s.sreg.getLsbD 6),
      (.brie k, s.sreg.getLsbD 7), (.brid k, !s.sreg.getLsbD 7)],
    ∃ t, exec p.1 s = .next t ∧ t.pc = (if p.2 then s.pcRel k.toInt else s.pcPlus 1) ∧ s.OnlyChanges t []

/-- RJMP, IJMP, EIJMP and JMP (R202 to R205): where the PC goes; nothing else changes. -/
def Obligations.JumpResult : Prop :=
  ∀ (s : State) (k12 : BitVec 12) (k22 : BitVec 22),
    let z := (s.r 31).toNat * 256 + (s.r 30).toNat
    ∀ p ∈ [
      (Instr.rjmp k12, ((s.pc.toNat : Int) + 1 + k12.toInt) % (2 ^ s.cfg.pcBits : Nat)),
      (.ijmp, ((z % 2 ^ s.cfg.pcBits : Nat) : Int)),
      (.eijmp, (((s.getEind.toNat % 64 * 65536 + z) % 2 ^ s.cfg.pcBits : Nat) : Int)),
      (.jmp k22, ((k22.toNat % 2 ^ s.cfg.pcBits : Nat) : Int))],
    ∃ t, exec p.1 s = .next t ∧ t.pc = BitVec.ofNat 22 p.2.toNat ∧ s.OnlyChanges t []

/-- RCALL, ICALL, EICALL and CALL (R206 to R209, 20_memory R82): with room on the stack the return address goes to RAM,
least significant byte first and so at the highest address, SP falls by RET_BYTES, and the PC goes to the target. And
wherever the stack lies (R84): the bytes go by MemWrite into I/O space or the register file, and where one cannot be written
the call stops with that fault or refusal, no byte pushed (log 28). EICALL's target is read before the push, as ICALL's
(log 26). -/
def Obligations.CallResult : Prop :=
  (∀ (s : State) (k12 : BitVec 12) (k22 : BitVec 22), s.Inv → s.RoomFor s.cfg.retBytes →
    let z := (s.r 31).toNat * 256 + (s.r 30).toNat
    ∀ p ∈ [
      (Instr.rcall k12, 1, ((s.pc.toNat : Int) + 1 + k12.toInt) % (2 ^ s.cfg.pcBits : Nat)),
      (.icall, 1, ((z % 2 ^ s.cfg.pcBits : Nat) : Int)),
      (.eicall, 1, (((s.getEind.toNat % 64 * 65536 + z) % 2 ^ s.cfg.pcBits : Nat) : Int)),
      (.call k22, 2, ((k22.toNat % 2 ^ s.cfg.pcBits : Nat) : Int))],
    ∃ t, exec p.1 s = .next t ∧
      let a := (s.pc.toNat + p.2.1) % 2 ^ s.cfg.pcBits
      t.ramByte (s.below 0) = some (BitVec.ofNat 8 a) ∧
      t.ramByte (s.below 1) = some (BitVec.ofNat 8 (a / 256)) ∧
      (s.cfg.retBytes = 3 → t.ramByte (s.below 2) = some (BitVec.ofNat 8 (a / 65536))) ∧
      t.sp.toNat = s.below s.cfg.retBytes ∧ t.pc = BitVec.ofNat 22 p.2.2.toNat ∧
      s.OnlyChanges t (.sp :: (List.range s.cfg.retBytes).map fun j => .ram (s.below j))) ∧
  (∀ (s : State) (k12 : BitVec 12) (k22 : BitVec 22),
    let z := (s.r 31).toNat * 256 + (s.r 30).toNat
    ∀ p ∈ [
      (Instr.rcall k12, 1, ((s.pc.toNat : Int) + 1 + k12.toInt) % (2 ^ s.cfg.pcBits : Nat)),
      (.icall, 1, ((z % 2 ^ s.cfg.pcBits : Nat) : Int)),
      (.eicall, 1, (((s.getEind.toNat % 64 * 65536 + z) % 2 ^ s.cfg.pcBits : Nat) : Int)),
      (.call k22, 2, ((k22.toNat % 2 ^ s.cfg.pcBits : Nat) : Int))],
    exec p.1 s = andThen (s.pushBytes (Config.returnBytes s.cfg (s.pcPlus p.2.1).toNat)) fun t =>
      .next { t with pc := BitVec.ofNat 22 p.2.2.toNat })

/-- RET and RETI (R210, R211, 20_memory R83, 60_exceptions R409): the PC from the bytes on the stack, most significant
first, SP up by RET_BYTES; RETI ends the innermost level, sets the inhibit, and sets I where the core does that. And wherever
the stack lies (R84): the bytes come by MemRead, and where one cannot be read the return stops with that fault. -/
def Obligations.ReturnResult : Prop :=
  (∀ (s : State) (ext hi lo : Byte), s.Inv → (s.cfg.retBytes = 3 → s.Holds 1 ext) →
    s.Holds (s.cfg.retBytes - 1) hi → s.Holds s.cfg.retBytes lo →
    let a := (if s.cfg.retBytes = 3 then ext.toNat * 65536 else 0) + hi.toNat * 256 + lo.toNat
    (∃ t, exec .ret s = .next t ∧ t.pc = BitVec.ofNat 22 (a % 2 ^ s.cfg.pcBits) ∧
      t.sp.toNat = s.above s.cfg.retBytes ∧ s.OnlyChanges t [.sp]) ∧
    (∃ t, exec .reti s = .next t ∧ t.pc = BitVec.ofNat 22 (a % 2 ^ s.cfg.pcBits) ∧
      t.sp.toNat = s.above s.cfg.retBytes ∧ t.inService = s.inService.tail ∧ t.inhibit = true ∧
      (∀ j : Nat, j < 8 → t.sreg.getLsbD j = (s.sreg.getLsbD j || (decide (j = 7) && s.cfg.retiSetsI))) ∧
      s.OnlyChanges t [.sp, .sreg, .inService, .inhibit])) ∧
  (∀ s : State,
    exec .ret s = (andThen (s.popBytes s.cfg.retBytes) fun p =>
      .next { p.2 with pc := BitVec.ofNat 22 (bigEndian p.1 % 2 ^ s.cfg.pcBits) }) ∧
    exec .reti s = (andThen (s.popBytes s.cfg.retBytes) fun p => .next { p.2 with
      pc := BitVec.ofNat 22 (bigEndian p.1 % 2 ^ s.cfg.pcBits)
      sreg := p.2.sreg ||| (if s.cfg.retiSetsI then 0x80#8 else 0x00#8)
      inService := s.inService.tail
      inhibit := true }))

/-- A call and its RET: whatever the subroutine did, if at its RET the stack pointer and the pushed bytes are what the call
left, execution goes on after the call with the stack pointer as before (R206 to R210, 20_memory R83: "PopPC() is the
inverse"). -/
def Obligations.CallReturnRoundTrip : Prop :=
  ∀ (s t u : State) (k12 : BitVec 12) (k22 : BitVec 22), s.Inv → s.RoomFor s.cfg.retBytes →
    ∀ p ∈ [(Instr.rcall k12, 1), (.icall, 1), (.eicall, 1), (.call k22, 2)],
    exec p.1 s = .next t → u.cfg = t.cfg → u.sp = t.sp →
    (∀ j < s.cfg.retBytes, u.ramByte (s.below j) = t.ramByte (s.below j)) →
    ∃ v, exec .ret u = .next v ∧ v.pc = s.pcPlus p.2 ∧ v.sp = s.sp ∧ u.OnlyChanges v [.sp]

/-- CPSE, SBRC and SBRS (R201, R212, R216, R217): the skip goes over one word or two, by the first word of what follows;
it faults only where it must read a word beyond FLASHEND; nothing but the PC changes. -/
def Obligations.SkipResult : Prop :=
  ∀ (s : State) (d r : Reg) (b : BitVec 3),
    let nxt := (s.pc.toNat + 1) % 2 ^ s.cfg.pcBits
    ∀ p ∈ [(Instr.cpse d r, decide (s.r d = s.r r)), (.sbrc r b, !(s.r r).getLsbD b.toNat),
      (.sbrs r b, (s.r r).getLsbD b.toNat)],
    (p.2 = false → ∃ t, exec p.1 s = .next t ∧ t.pc = s.pcPlus 1 ∧ s.OnlyChanges t []) ∧
    (p.2 = true → nxt ≤ s.cfg.flashEnd → ∃ t, exec p.1 s = .next t ∧
      t.pc = s.pcPlus (1 + instrLen s.cfg.core (s.prog.flashWord nxt)) ∧ s.OnlyChanges t []) ∧
    (p.2 = true → s.cfg.flashEnd < nxt → exec p.1 s = .fault (.unmappedProgram nxt))

/-- SBIC and SBIS (R218, R219): exactly one I/O read, then the skip on its bit. -/
def Obligations.SkipIoResult : Prop :=
  ∀ (s : State) (a : BitVec 5) (b : BitVec 3),
    let nxt := (s.pc.toNat + 1) % 2 ^ s.cfg.pcBits
    let v := (s.ioRead a.toNat).1
    ∀ p ∈ [(Instr.sbic a b, !v.getLsbD b.toNat), (.sbis a b, v.getLsbD b.toNat)],
    (p.2 = false → ∃ t, exec p.1 s = .next t ∧ t.pc = s.pcPlus 1 ∧ t.hist = s.histAfterRead a.toNat ∧
      s.OnlyChanges t [.hist]) ∧
    (p.2 = true → nxt ≤ s.cfg.flashEnd → ∃ t, exec p.1 s = .next t ∧
      t.pc = s.pcPlus (1 + instrLen s.cfg.core (s.prog.flashWord nxt)) ∧ t.hist = s.histAfterRead a.toNat ∧
      s.OnlyChanges t [.hist]) ∧
    (p.2 = true → s.cfg.flashEnd < nxt → exec p.1 s = .fault (.unmappedProgram nxt))

/-! ### Data transfer (42_data_transfer) -/

/-- MOV, MOVW, LDI and SER (R262 to R264, R166): the value moved; a pair is read whole before it is written; no flag. -/
def Obligations.MoveResult : Prop :=
  ∀ (s : State) (d r : Reg) (k : BitVec 8),
    (∀ p ∈ [(Instr.mov d r, s.r r), (.ldi d k, k), (.ser d, 255#8)],
      ∃ t, exec p.1 s = .next t ∧ t.r d = p.2 ∧ t.pc = s.pcPlus 1 ∧ s.OnlyChanges t [.reg d]) ∧
    (∃ t, exec (.movw d r) s = .next t ∧ t.r d = s.r r ∧ t.r (d + 1) = s.r (r + 1) ∧ t.pc = s.pcPlus 1 ∧
      s.OnlyChanges t [.reg d, .reg (d + 1)])

/-- The loads that leave the pointer alone (R265 to R267, R270, R273, R274, R277, R308), by the class of the address
(20_memory R70): a byte of RAM arrives and nothing else changes; a byte of RAM never written is a fresh free value (log 3);
then the register file, I/O space, a byte the oracle answers, recorded in its history, the window onto Flash, whose bytes
beyond FLASHEND fault (R64, R65), and the fault of an unmapped address. The addresses are those of PointerArithmetic. The byte
of a window is that of R74 on the AVR128DA64; that one flashMap moves the windows of every configuration is log 33. -/
def Obligations.LoadResult : Prop :=
  ∀ (s : State) (d : Reg) (q : BitVec 6) (k : BitVec 16) (k8 : BitVec 8), ∀ p ∈ [
      (Instr.ldX d, s.ptrGet .x, 1), (.ldY d, s.ptrGet .y, 1), (.ldZ d, s.ptrGet .z, 1),
      (.lddY d q, s.ptrDisp .y q, 1), (.lddZ d q, s.ptrDisp .z q, 1),
      (.lds d k, s.directAddr k, 2), (.ldsRc d k8, k8.toNat, 1)],
    (∀ v, dataLoc s.cfg p.2.1 = .ram → s.ramByte p.2.1 = some v →
      ∃ t, exec p.1 s = .next t ∧ t.r d = v ∧ t.pc = s.pcPlus p.2.2 ∧ s.OnlyChanges t [.reg d]) ∧
    (dataLoc s.cfg p.2.1 = .ram → s.ramByte p.2.1 = none →
      ∃ t, exec p.1 s = .next t ∧ t.r d = Config.ramDraw s.draws ∧ t.draws = s.draws + 1 ∧ t.pc = s.pcPlus p.2.2 ∧
        s.OnlyChanges t [.reg d, .draws]) ∧
    (∀ i, dataLoc s.cfg p.2.1 = .reg i → ∃ t, exec p.1 s = .next t ∧ t.r d = s.r i ∧
      t.pc = s.pcPlus p.2.2 ∧ s.OnlyChanges t [.reg d]) ∧
    (∀ n, dataLoc s.cfg p.2.1 = .io n → ∃ t, exec p.1 s = .next t ∧ t.r d = (s.ioRead n).1 ∧
      t.hist = s.histAfterRead n ∧ t.pc = s.pcPlus p.2.2 ∧ s.OnlyChanges t [.reg d, .hist]) ∧
    (dataLoc s.cfg p.2.1 = .other → ∃ t, exec p.1 s = .next t ∧
      t.r d = Config.ioAnswer s.hist (.other p.2.1) ∧ t.hist = s.hist ++ [.read (.other p.2.1)] ∧
      t.pc = s.pcPlus p.2.2 ∧ s.OnlyChanges t [.reg d, .hist]) ∧
    (∀ o n, dataLoc s.cfg p.2.1 = .progWindow o n → (s.flashMap.toNat * n + o) / 2 ≤ s.cfg.flashEnd →
      ∃ t, exec p.1 s = .next t ∧ t.r d = s.prog.flashByte (s.flashMap.toNat * n + o) ∧
        t.pc = s.pcPlus p.2.2 ∧ s.OnlyChanges t [.reg d]) ∧
    (∀ o n, dataLoc s.cfg p.2.1 = .progWindow o n → s.cfg.flashEnd < (s.flashMap.toNat * n + o) / 2 →
      exec p.1 s = .fault (.unmappedProgram ((s.flashMap.toNat * n + o) / 2))) ∧
    (dataLoc s.cfg p.2.1 = .unmapped → exec p.1 s = .fault (.unmappedData p.2.1))

/-- The loads with post-increment and pre-decrement (R261, R268, R269, R271, R272, R275, R276): the byte at the pointer, or
at the pointer less one, read by MemRead (DataReadByClass) with the pointer already lowered; the pointer moves by one, mod
2^DATA_PTR_BITS; nothing else changes but what the read itself does. Where the read stops, the instruction stops. -/
def Obligations.LoadStepping : Prop :=
  ∀ (s u : State) (d : Reg) (v : Byte), ∀ p ∈ [
      (Instr.ldXInc d, Ptr.x, s, s.ptrGet .x, (1 : Int)), (.ldYInc d, .y, s, s.ptrGet .y, 1),
      (.ldZInc d, .z, s, s.ptrGet .z, 1),
      (.ldXDec d, .x, s.ptrSet .x (s.ptrDown .x), s.ptrDown .x, -1),
      (.ldYDec d, .y, s.ptrSet .y (s.ptrDown .y), s.ptrDown .y, -1),
      (.ldZDec d, .z, s.ptrSet .z (s.ptrDown .z), s.ptrDown .z, -1)],
    p.2.1.holds d = false → (s.cfg.ptrWidth = .w24 → Config.hasRamp s.cfg p.2.1 = true) →
    (p.2.2.1.memRead p.2.2.2.1 = .next (v, u) → ∃ t, exec p.1 s = .next t ∧ t.r d = v ∧
      (t.ptrGet p.2.1 : Int) = ((s.ptrGet p.2.1 : Int) + p.2.2.2.2) % (2 ^ s.cfg.ptrWidth.bits : Nat) ∧
      t.pc = s.pcPlus 1 ∧ u.OnlyChanges t (.reg d :: p.2.1.parts s.cfg.ptrWidth) ∧
      s.OnlyChanges t (.reg d :: .hist :: .draws :: p.2.1.parts s.cfg.ptrWidth)) ∧
    (∀ f, p.2.2.1.memRead p.2.2.2.1 = .fault f → exec p.1 s = .fault f)

/-- The stores that leave the pointer alone (R278 to R280, R283, R286, R287, R290, R308), by the class of the address
(20_memory R71): in RAM the one byte at the address holds the register, every other byte, every register and every flag stays;
elsewhere the write is recorded in the oracle's history, or the CPU register of the address is written; the window onto
Flash refuses; an unmapped address faults. -/
def Obligations.StoreResult : Prop :=
  ∀ (s : State) (r : Reg) (q : BitVec 6) (k : BitVec 16) (k8 : BitVec 8), ∀ p ∈ [
      (Instr.stX r, s.ptrGet .x, 1), (.stY r, s.ptrGet .y, 1), (.stZ r, s.ptrGet .z, 1),
      (.stdY q r, s.ptrDisp .y q, 1), (.stdZ q r, s.ptrDisp .z q, 1),
      (.sts k r, s.directAddr k, 2), (.stsRc k8 r, k8.toNat, 1)],
    (dataLoc s.cfg p.2.1 = .ram → ∃ t, exec p.1 s = .next t ∧ t.ramByte p.2.1 = some (s.r r) ∧
      t.pc = s.pcPlus p.2.2 ∧ s.OnlyChanges t [.ram p.2.1]) ∧
    (∀ n, dataLoc s.cfg p.2.1 = .io n → n ∉ Config.cpuIo s.cfg → ∃ t, exec p.1 s = .next t ∧
      t.hist = s.hist ++ [.write (.io n) (s.r r)] ∧ t.pc = s.pcPlus p.2.2 ∧ s.OnlyChanges t [.hist]) ∧
    (∀ n, dataLoc s.cfg p.2.1 = .io n → ∃ t, exec p.1 s = .next t ∧ t.pc = s.pcPlus p.2.2 ∧
      (s.ioWrite n (s.r r)).OnlyChanges t []) ∧
    (∀ i, dataLoc s.cfg p.2.1 = .reg i → ∃ t, exec p.1 s = .next t ∧ t.r i = s.r r ∧
      t.pc = s.pcPlus p.2.2 ∧ s.OnlyChanges t [.reg i]) ∧
    (dataLoc s.cfg p.2.1 = .io s.cfg.sregIo → ∃ t, exec p.1 s = .next t ∧ t.sreg = s.r r ∧
      t.pc = s.pcPlus p.2.2 ∧ s.OnlyChanges t [.sreg, .inhibit]) ∧
    (dataLoc s.cfg p.2.1 = .other → ∃ t, exec p.1 s = .next t ∧
      t.hist = s.hist ++ [.write (.other p.2.1) (s.r r)] ∧ t.pc = s.pcPlus p.2.2 ∧ s.OnlyChanges t [.hist]) ∧
    (∀ o n, dataLoc s.cfg p.2.1 = .progWindow o n → exec p.1 s = .refused (.deviceDefined "store to mapped Flash")) ∧
    (dataLoc s.cfg p.2.1 = .unmapped → exec p.1 s = .fault (.unmappedData p.2.1))

/-- The stores with post-increment and pre-decrement (R261, R281, R282, R284, R285, R288, R289), by the class of the address
(20_memory R71): the byte goes to the pointer, or to the pointer less one, in RAM, in the register file, in a CPU register of
I/O space, or to the oracle, recorded; the pointer moves by one; nothing else changes. Where the address is a half of the
pointer itself, or its RAMP register, the later write stays: the stepped pointer after a post-increment, the stored byte after
a pre-decrement (R260). The window onto Flash refuses and an unmapped address faults. -/
def Obligations.StoreStepping : Prop :=
  (∀ (s : State) (r : Reg), ∀ p ∈ [
      (Instr.stXInc r, Ptr.x, s.ptrGet .x, (1 : Int)), (.stYInc r, .y, s.ptrGet .y, 1), (.stZInc r, .z, s.ptrGet .z, 1),
      (.stXDec r, .x, s.ptrDown .x, -1), (.stYDec r, .y, s.ptrDown .y, -1), (.stZDec r, .z, s.ptrDown .z, -1)],
    p.2.1.holds r = false → (s.cfg.ptrWidth = .w24 → Config.hasRamp s.cfg p.2.1 = true) →
    (dataLoc s.cfg p.2.2.1 = .ram →
      ∃ t, exec p.1 s = .next t ∧ t.ramByte p.2.2.1 = some (s.r r) ∧
        (t.ptrGet p.2.1 : Int) = ((s.ptrGet p.2.1 : Int) + p.2.2.2) % (2 ^ s.cfg.ptrWidth.bits : Nat) ∧
        t.pc = s.pcPlus 1 ∧ s.OnlyChanges t (.ram p.2.2.1 :: p.2.1.parts s.cfg.ptrWidth)) ∧
    (∀ i, dataLoc s.cfg p.2.2.1 = .reg i → p.2.1.holds i = false →
      ∃ t, exec p.1 s = .next t ∧ t.r i = s.r r ∧
        (t.ptrGet p.2.1 : Int) = ((s.ptrGet p.2.1 : Int) + p.2.2.2) % (2 ^ s.cfg.ptrWidth.bits : Nat) ∧
        t.pc = s.pcPlus 1 ∧ s.OnlyChanges t (.reg i :: p.2.1.parts s.cfg.ptrWidth)) ∧
    (∀ l, (dataLoc s.cfg p.2.2.1 = .other ∧ l = .other p.2.2.1 ∨
        ∃ n, dataLoc s.cfg p.2.2.1 = .io n ∧ n ∉ Config.cpuIo s.cfg ∧ l = .io n) →
      ∃ t, exec p.1 s = .next t ∧ t.hist = s.hist ++ [.write l (s.r r)] ∧
        (t.ptrGet p.2.1 : Int) = ((s.ptrGet p.2.1 : Int) + p.2.2.2) % (2 ^ s.cfg.ptrWidth.bits : Nat) ∧
        t.pc = s.pcPlus 1 ∧ s.OnlyChanges t (.hist :: p.2.1.parts s.cfg.ptrWidth)) ∧
    (∀ o n, dataLoc s.cfg p.2.2.1 = .progWindow o n →
      exec p.1 s = .refused (.deviceDefined "store to mapped Flash")) ∧
    (dataLoc s.cfg p.2.2.1 = .unmapped → exec p.1 s = .fault (.unmappedData p.2.2.1))) ∧
  (∀ (s : State) (r : Reg), ∀ p ∈ [(Instr.stXInc r, Ptr.x), (.stYInc r, .y), (.stZInc r, .z)],
    p.2.holds r = false → (s.cfg.ptrWidth = .w24 → Config.hasRamp s.cfg p.2 = true) →
    (∀ n, dataLoc s.cfg (s.ptrGet p.2) = .io n → ∃ t, exec p.1 s = .next t ∧ t.ptrGet p.2 = s.ptrUp p.2 ∧
      t.pc = s.pcPlus 1 ∧ ((s.ioWrite n (s.r r)).ptrSet p.2 (s.ptrUp p.2)).OnlyChanges t []) ∧
    (∀ i, dataLoc s.cfg (s.ptrGet p.2) = .reg i → ∃ t, exec p.1 s = .next t ∧ t.ptrGet p.2 = s.ptrUp p.2 ∧
      t.pc = s.pcPlus 1 ∧ ((s.setR i (s.r r)).ptrSet p.2 (s.ptrUp p.2)).OnlyChanges t [])) ∧
  (∀ (s : State) (r : Reg), ∀ p ∈ [(Instr.stXDec r, Ptr.x), (.stYDec r, .y), (.stZDec r, .z)],
    p.2.holds r = false →
    (∀ n, dataLoc s.cfg (s.ptrDown p.2) = .io n → ∃ t, exec p.1 s = .next t ∧ t.pc = s.pcPlus 1 ∧
      ((s.ptrSet p.2 (s.ptrDown p.2)).ioWrite n (s.r r)).OnlyChanges t []) ∧
    (∀ i, dataLoc s.cfg (s.ptrDown p.2) = .reg i → ∃ t, exec p.1 s = .next t ∧ t.r i = s.r r ∧ t.pc = s.pcPlus 1 ∧
      ((s.ptrSet p.2 (s.ptrDown p.2)).setR i (s.r r)).OnlyChanges t []))

/-- The operand combinations of R122 and R261: post-increment and pre-decrement through the pointer that holds the data
register, and LPM, ELPM Rd,Z+ into R30 or R31, fault by name in every state. -/
def Obligations.UndefinedOperands : Prop :=
  ∀ (s : State) (d : Reg), ∀ p ∈ [
      (Instr.ldXInc d, 26, "LD"), (.ldXDec d, 26, "LD"), (.ldYInc d, 28, "LD"), (.ldYDec d, 28, "LD"),
      (.ldZInc d, 30, "LD"), (.ldZDec d, 30, "LD"),
      (.stXInc d, 26, "ST"), (.stXDec d, 26, "ST"), (.stYInc d, 28, "ST"), (.stYDec d, 28, "ST"),
      (.stZInc d, 30, "ST"), (.stZDec d, 30, "ST"),
      (.lpmZInc d, 30, "LPM"), (.elpmZInc d, 30, "ELPM")],
    (d.val = p.2.1 ∨ d.val = p.2.1 + 1) ↔ exec p.1 s = .fault (.undefinedOperands p.2.2)

/-- LPM and ELPM (R291 to R296, 20_memory R62, R65): the byte of program space at Z, or at RAMPZ:Z; with Z+ the pointer goes
up by one, for ELPM with its carry into RAMPZ, for LPM without; beyond FLASHEND every form faults. -/
def Obligations.ProgramLoad : Prop :=
  ∀ (s : State) (d : Reg),
    let z := (s.r 31).toNat * 256 + (s.r 30).toNat
    let rz := s.getRampz.toNat * 65536 + z
    (∀ p ∈ [(Instr.lpmR0, (0 : Reg), z), (.lpmZ d, d, z), (.elpmR0, 0, rz), (.elpmZ d, d, rz)],
      (p.2.2 / 2 ≤ s.cfg.flashEnd → ∃ t, exec p.1 s = .next t ∧ t.r p.2.1 = s.prog.flashByte p.2.2 ∧
        t.pc = s.pcPlus 1 ∧ s.OnlyChanges t [.reg p.2.1]) ∧
      (s.cfg.flashEnd < p.2.2 / 2 → exec p.1 s = .fault (.unmappedProgram (p.2.2 / 2)))) ∧
    (d.val < 30 → z / 2 ≤ s.cfg.flashEnd → ∃ t, exec (.lpmZInc d) s = .next t ∧ t.r d = s.prog.flashByte z ∧
      (t.r 31).toNat * 256 + (t.r 30).toNat = (z + 1) % 65536 ∧ t.pc = s.pcPlus 1 ∧
      s.OnlyChanges t [.reg d, .reg 30, .reg 31]) ∧
    (d.val < 30 → s.cfg.flashEnd < z / 2 → exec (.lpmZInc d) s = .fault (.unmappedProgram (z / 2))) ∧
    (d.val < 30 → s.cfg.flashEnd < rz / 2 → exec (.elpmZInc d) s = .fault (.unmappedProgram (rz / 2))) ∧
    (d.val < 30 → s.cfg.hasRampz = true → rz / 2 ≤ s.cfg.flashEnd → ∃ t, exec (.elpmZInc d) s = .next t ∧
      t.r d = s.prog.flashByte rz ∧
      t.rampz.toNat * 65536 + (t.r 31).toNat * 256 + (t.r 30).toNat = (rz + 1) % 2 ^ 24 ∧ t.pc = s.pcPlus 1 ∧
      s.OnlyChanges t [.reg d, .reg 30, .reg 31, .rampz])

/-- SPM and SPM Z+ (R297, R298), by the configuration's SpmEffect (its three values are log 13): absent, they are refused
(D15); writeWord, "PS(RAMPZ:Z) ← R1:R0", and every other word of program space stays, or a fault beyond FLASHEND; device,
program space becomes what the device's free function makes of the state, the byte address as it is and the word, which the
history records. Z+ then goes up by two, with the carry into RAMPZ. -/
def Obligations.StoreProgram : Prop :=
  ∀ s : State,
    let b := s.getRampz.toNat * 65536 + (s.r 31).toNat * 256 + (s.r 30).toNat
    (∀ i ∈ [Instr.spm, .spmZInc], s.cfg.spmEffect = .absent → exec i s = .refused (.deviceDefined "SPM")) ∧
    (∀ i ∈ [Instr.spm, .spmZInc], s.cfg.spmEffect = .writeWord → s.cfg.flashEnd < b / 2 →
      exec i s = .fault (.unmappedProgram (b / 2))) ∧
    (Memory.flashWf s.prog = true → s.cfg.spmEffect = .writeWord → b / 2 ≤ s.cfg.flashEnd →
      (∃ t, exec .spm s = .next t ∧ (t.prog.flashWord (b / 2)).toNat = (s.r 1).toNat * 256 + (s.r 0).toNat ∧
        t.pc = s.pcPlus 1 ∧ s.OnlyChanges t [.flash (2 * (b / 2)), .flash (2 * (b / 2) + 1)]) ∧
      (∃ t, exec .spmZInc s = .next t ∧ (t.prog.flashWord (b / 2)).toNat = (s.r 1).toNat * 256 + (s.r 0).toNat ∧
        t.pc = s.pcPlus 1 ∧
        (t.r 31).toNat * 256 + (t.r 30).toNat = (b + 2) % 65536 ∧
        (s.cfg.hasRampz = true → t.rampz.toNat = (b + 2) / 65536 % 256) ∧
        s.OnlyChanges t [.flash (2 * (b / 2)), .flash (2 * (b / 2) + 1), .reg 30, .reg 31, .rampz])) ∧
    (s.cfg.spmEffect = .device →
      let w := BitVec.ofNat 16 ((s.r 1).toNat * 256 + (s.r 0).toNat)
      let p := storeWords s.cfg.flashEnd s.prog (Config.spmWrites { s with cyc := 0 } b w)
      (∃ t, exec .spm s = .next t ∧ t.prog = p ∧ t.hist = s.hist ++ [.spm b w] ∧ t.pc = s.pcPlus 1 ∧
        ({ s with prog := p } : State).OnlyChanges t [.hist]) ∧
      (∃ t, exec .spmZInc s = .next t ∧ t.prog = p ∧ t.hist = s.hist ++ [.spm b w] ∧ t.pc = s.pcPlus 1 ∧
        (t.r 31).toNat * 256 + (t.r 30).toNat = (b + 2) % 65536 ∧
        (s.cfg.hasRampz = true → t.rampz.toNat = (b + 2) / 65536 % 256) ∧
        ({ s with prog := p } : State).OnlyChanges t [.hist, .reg 30, .reg 31, .rampz]))

/-- R308: no data transfer instruction changes a flag, unless the location it writes is SREG, by OUT to its I/O address or
by a store to its data address; and each is one word, or two for LDS and STS, and moves the PC past its own words. -/
def Obligations.TransferKeepsFlags : Prop :=
  ∀ (s t : State) (i : Instr) (d r : Reg) (k : BitVec 16) (k8 : BitVec 8) (q a : BitVec 6), exec i s = .next t →
    let loads : List Instr := [.mov d r, .movw d r, .ldi d k8, .lds d k, .ldsRc d k8, .ldX d, .ldXInc d, .ldXDec d,
      .ldY d, .ldYInc d, .ldYDec d, .lddY d q, .ldZ d, .ldZInc d, .ldZDec d, .lddZ d q, .lpmR0, .lpmZ d, .lpmZInc d,
      .elpmR0, .elpmZ d, .elpmZInc d, .spm, .spmZInc, .inIo d a, .pop d, .xch d, .las d, .lac d, .lat d]
    let stores : List (Instr × Nat) := [(.sts k r, s.directAddr k), (.stsRc k8 r, k8.toNat), (.stX r, s.ptrGet .x),
      (.stXInc r, s.ptrGet .x), (.stXDec r, s.ptrDown .x), (.stY r, s.ptrGet .y), (.stYInc r, s.ptrGet .y),
      (.stYDec r, s.ptrDown .y), (.stdY q r, s.ptrDisp .y q), (.stZ r, s.ptrGet .z), (.stZInc r, s.ptrGet .z),
      (.stZDec r, s.ptrDown .z), (.stdZ q r, s.ptrDisp .z q), (.push r, s.sp.toNat)]
    (i ∈ loads → t.sreg = s.sreg) ∧
    (∀ x, (i, x) ∈ stores → dataLoc s.cfg x ≠ .io s.cfg.sregIo → t.sreg = s.sreg) ∧
    (i = .out a r → a.toNat ≠ s.cfg.sregIo → t.sreg = s.sreg) ∧
    (i = .out a r ∨ i ∈ loads ++ stores.map Prod.fst →
      (encode i).length = (if i = .lds d k ∨ i = .sts k r then 2 else 1) ∧ t.pc = s.pcPlus (encode i).length)

/-- IN (R299): the register takes one I/O read, recorded where the oracle answers; no flag. OUT (R300): one I/O write, by
IoRegisters, and nothing else: SREG takes all eight flags, SPH and SPL are one byte each of SP, RAMPZ takes the byte;
at an address without a CPU register the write is recorded. -/
def Obligations.InAndOut : Prop :=
  ∀ (s : State) (d : Reg) (a : BitVec 6), s.Inv → Config.ConventionalIo s.cfg →
    (∃ t, exec (.inIo d a) s = .next t ∧ t.r d = (s.ioRead a.toNat).1 ∧ t.hist = s.histAfterRead a.toNat ∧
      t.pc = s.pcPlus 1 ∧ s.OnlyChanges t [.reg d, .hist]) ∧
    (∃ t, exec (.out a d) s = .next t ∧ t.pc = s.pcPlus 1 ∧ (s.ioWrite a.toNat (s.r d)).OnlyChanges t []) ∧
    (a.toNat ∉ Config.cpuIo s.cfg → ∃ t, exec (.out a d) s = .next t ∧
      t.hist = s.hist ++ [.write (.io a.toNat) (s.r d)] ∧ t.pc = s.pcPlus 1 ∧ s.OnlyChanges t [.hist]) ∧
    (a = 0x3F#6 → ∃ t, exec (.out a d) s = .next t ∧ t.sreg = s.r d ∧
      t.inhibit = (s.inhibit || (!flagI s.sreg && flagI t.sreg)) ∧
      t.pc = s.pcPlus 1 ∧ s.OnlyChanges t [.sreg, .inhibit]) ∧
    (a = 0x3E#6 → ∃ t, exec (.out a d) s = .next t ∧
      t.sp.toNat = ((s.r d).toNat * 256 + s.sp.toNat % 256) % 2 ^ s.cfg.spBits ∧
      t.pc = s.pcPlus 1 ∧ s.OnlyChanges t [.sp]) ∧
    (a = 0x3D#6 → ∃ t, exec (.out a d) s = .next t ∧
      t.sp.toNat = (s.sp.toNat / 256 * 256 + (s.r d).toNat) % 2 ^ s.cfg.spBits ∧
      t.pc = s.pcPlus 1 ∧ s.OnlyChanges t [.sp]) ∧
    (a = 0x3B#6 → s.cfg.hasRampz = true → ∃ t, exec (.out a d) s = .next t ∧ t.rampz = s.r d ∧
      t.pc = s.pcPlus 1 ∧ s.OnlyChanges t [.rampz])

/-- PUSH and POP (R301, R302, 20_memory R80, R81), on a stack in RAM: the byte at SP, SP one down; SP one up, the byte
there. Elsewhere they do what MemWrite and MemRead do there (R84), and stop where those stop (R71, R70, R65): PUSH at an
unmapped address or in the window onto Flash, POP at an unmapped address or at a window byte beyond FLASHEND, which only a
configuration other than the AVR128DA64's has: which byte a window shows there, one flashMap for every window, is log 33. -/
def Obligations.PushAndPop : Prop :=
  ∀ (s : State) (d : Reg), s.Inv →
    (dataLoc s.cfg s.sp.toNat = .ram → ∃ t, exec (.push d) s = .next t ∧ t.ramByte s.sp.toNat = some (s.r d) ∧
      t.sp.toNat = s.below 1 ∧ t.pc = s.pcPlus 1 ∧ s.OnlyChanges t [.ram s.sp.toNat, .sp]) ∧
    (∀ u, s.memWrite s.sp.toNat (s.r d) = .next u → ∃ t, exec (.push d) s = .next t ∧ t.sp.toNat = u.below 1 ∧
      t.pc = s.pcPlus 1 ∧ u.OnlyChanges t [.sp]) ∧
    (dataLoc s.cfg s.sp.toNat = .unmapped → exec (.push d) s = .fault (.unmappedData s.sp.toNat)) ∧
    (∀ o n, dataLoc s.cfg s.sp.toNat = .progWindow o n →
      exec (.push d) s = .refused (.deviceDefined "store to mapped Flash")) ∧
    (∀ f, s.memWrite s.sp.toNat (s.r d) = .fault f → exec (.push d) s = .fault f) ∧
    (∀ f, s.memWrite s.sp.toNat (s.r d) = .refused f → exec (.push d) s = .refused f) ∧
    (∀ v, s.Holds 1 v → ∃ t, exec (.pop d) s = .next t ∧ t.r d = v ∧ t.sp.toNat = s.above 1 ∧
      t.pc = s.pcPlus 1 ∧ s.OnlyChanges t [.reg d, .sp]) ∧
    (∀ u v, (s.setSp (s.above 1)).memRead (s.above 1) = .next (v, u) → ∃ t, exec (.pop d) s = .next t ∧
      t.r d = v ∧ t.sp.toNat = s.above 1 ∧ t.pc = s.pcPlus 1 ∧ u.OnlyChanges t [.reg d]) ∧
    (dataLoc s.cfg (s.above 1) = .unmapped → exec (.pop d) s = .fault (.unmappedData (s.above 1))) ∧
    (∀ o n, dataLoc s.cfg (s.above 1) = .progWindow o n → s.cfg.flashEnd < (s.flashMap.toNat * n + o) / 2 →
      exec (.pop d) s = .fault (.unmappedProgram ((s.flashMap.toNat * n + o) / 2))) ∧
    (∀ f, (s.setSp (s.above 1)).memRead (s.above 1) = .fault f → exec (.pop d) s = .fault f)

/-- XCH, LAS, LAC and LAT (R303 to R307): on RAM the old byte, as MemRead gives it (DataReadByClass), goes to the register
and the new one, of both, to memory; on other classes of address they are refused. That an unmapped address faults instead,
in the order of 60_exceptions R401, is the model's reading (log 22). -/
def Obligations.ReadModifyWrite : Prop :=
  ∀ (s u : State) (d : Reg) (old : Byte), ∀ p ∈ [
      (Instr.xch d, "XCH", fun j => (s.r d).getLsbD j),
      (.las d, "LAS", fun j => (s.r d).getLsbD j || old.getLsbD j),
      (.lac d, "LAC", fun j => !(s.r d).getLsbD j && old.getLsbD j),
      (.lat d, "LAT", fun j => (s.r d).getLsbD j ^^ old.getLsbD j)],
    (dataLoc s.cfg (s.ptrGet .z) = .ram → s.memRead (s.ptrGet .z) = .next (old, u) →
      ∃ t v, exec p.1 s = .next t ∧ t.ramByte (s.ptrGet .z) = some v ∧ (∀ j : Nat, j < 8 → v.getLsbD j = p.2.2 j) ∧
        t.r d = old ∧ t.pc = s.pcPlus 1 ∧ u.OnlyChanges t [.ram (s.ptrGet .z), .reg d]) ∧
    (dataLoc s.cfg (s.ptrGet .z) ≠ .ram → dataLoc s.cfg (s.ptrGet .z) ≠ .unmapped →
      exec p.1 s = .refused (.deviceDefined p.2.1)) ∧
    (dataLoc s.cfg (s.ptrGet .z) = .unmapped → exec p.1 s = .fault (.unmappedData (s.ptrGet .z)))

/-! ### MCU control (44_mcu_control) -/

/-- BREAK, NOP, SLEEP and WDR with their effects as the spec's defaults give them (R390 to R395): the PC goes on, and BREAK
stops the CPU under a debugger, SLEEP puts it to sleep where the sleep controller allows it, WDR is an event of the
oracle; nothing else changes; an effect left uninterpreted is refused. The model's choices in it: the list that answers
Io.SleepEnabled(), one answer for each SLEEP and true when it is used up, is log 7; BREAK giving a next state with stopped
set is log 12. -/
def Obligations.McuControl : Prop :=
  ∀ s : State,
    (∃ t, exec .nop s = .next t ∧ t.pc = s.pcPlus 1 ∧ s.OnlyChanges t []) ∧
    (s.cfg.breakEffect = .modelled → ∃ t, exec .brk s = .next t ∧ t.pc = s.pcPlus 1 ∧
      t.stopped = (s.stopped || s.cfg.debugAttached) ∧ s.OnlyChanges t [.stopped]) ∧
    (s.cfg.sleepEffect = .modelled → ∃ t, exec .sleep s = .next t ∧ t.pc = s.pcPlus 1 ∧
      t.sleeping = (s.sleeping || (s.sleepAnswers = [] || s.sleepAnswers.head? = some true)) ∧
      t.sleepAnswers = s.sleepAnswers.drop 1 ∧ s.OnlyChanges t [.sleeping, .sleepAnswers]) ∧
    (s.cfg.wdrEffect = .modelled → ∃ t, exec .wdr s = .next t ∧ t.pc = s.pcPlus 1 ∧
      t.hist = s.hist ++ [.wdr] ∧ s.OnlyChanges t [.hist]) ∧
    (s.cfg.breakEffect = .uninterpreted → exec .brk s = .refused (.deviceDefined "BREAK")) ∧
    (s.cfg.sleepEffect = .uninterpreted → exec .sleep s = .refused (.deviceDefined "SLEEP")) ∧
    (s.cfg.wdrEffect = .uninterpreted → exec .wdr s = .refused (.deviceDefined "WDR"))
end

