-- ==== Sys2Proof/Laws/Availability.lean ====
section
/-! SUPPORT. Availability of instructions (00_scope R4) beyond the table of Core.has. -/

namespace Sys2Proof

/-- Avail counts only on a core whose devices may lack the instruction. -/
theorem Config.deviceLacks_iff (c : Config) (o : DeviceOption) :
    c.deviceLacks o = true ↔ c.core.mayLack o = true ∧ o ∈ c.lacks := by
  simp [Config.deviceLacks]

/-- On AVRxm and AVRxt ADIW, SBIW, LPM, SPM, SPM Z+, PUSH and POP are available whatever the device (R4: a plain yes). -/
theorem Config.available_of_xmOrXt (c : Config) (h : c.core.xmOrXt = true) (d : Reg) (k : BitVec 6) :
    ∀ i ∈ [Instr.adiw d k, .sbiw d k, .lpmR0, .spm, .spmZInc, .push d, .pop d], c.available i = true := by
  have hc : c.core = .avrxm ∨ c.core = .avrxt := by simpa [Core.xmOrXt] using h
  rcases hc with e | e <;>
    simp [Config.available, Config.deviceHas, Config.deviceLacks, Core.mayLack, Core.beforeXm, Core.has, Core.notReduced, Core.xmOrXt, e]

/-- On a device that has EIND where R8 says it is needed, EIJMP and EICALL are available exactly where R4 says: on AVRe+,
AVRxm and AVRxt, if PC_BITS = 22. -/
theorem Config.available_extendedJumps (c : Config) (h : c.pcBits = 22 → c.hasEind = true) :
    ∀ i ∈ [Instr.eijmp, .eicall], c.available i = true ↔ c.core.fromAvrePlus = true ∧ c.pcBits = 22 := by
  simp only [List.mem_cons, List.not_mem_nil, or_false]
  rintro i (rfl | rfl) <;>
    simp only [Config.available, Config.deviceHas, Config.extendedJumps, Core.has, Bool.and_eq_true, beq_iff_eq] <;>
    exact and_congr_right fun _ => and_iff_left_of_imp h

end Sys2Proof
end

