-- ==== Sys2Proof/Laws/State.lean ====
section
/-! SUPPORT. One lemma per field per update of the state, so that no proof unfolds a record update; then the laws of the
register file. -/

namespace Sys2Proof.Machine

/-! ### setR -/

@[simp] theorem State.setR_cfg (s : State) (i : Reg) (v : Byte) : (s.setR i v).cfg = s.cfg := rfl
@[simp] theorem State.setR_regs (s : State) (i : Reg) (v : Byte) : (s.setR i v).regs = s.regs.set i.val v i.isLt := rfl
@[simp] theorem State.setR_pc (s : State) (i : Reg) (v : Byte) : (s.setR i v).pc = s.pc := rfl
@[simp] theorem State.setR_sreg (s : State) (i : Reg) (v : Byte) : (s.setR i v).sreg = s.sreg := rfl
@[simp] theorem State.setR_sp (s : State) (i : Reg) (v : Byte) : (s.setR i v).sp = s.sp := rfl
@[simp] theorem State.setR_rampx (s : State) (i : Reg) (v : Byte) : (s.setR i v).rampx = s.rampx := rfl
@[simp] theorem State.setR_rampy (s : State) (i : Reg) (v : Byte) : (s.setR i v).rampy = s.rampy := rfl
@[simp] theorem State.setR_rampz (s : State) (i : Reg) (v : Byte) : (s.setR i v).rampz = s.rampz := rfl
@[simp] theorem State.setR_rampd (s : State) (i : Reg) (v : Byte) : (s.setR i v).rampd = s.rampd := rfl
@[simp] theorem State.setR_eind (s : State) (i : Reg) (v : Byte) : (s.setR i v).eind = s.eind := rfl
@[simp] theorem State.setR_data (s : State) (i : Reg) (v : Byte) : (s.setR i v).data = s.data := rfl
@[simp] theorem State.setR_prog (s : State) (i : Reg) (v : Byte) : (s.setR i v).prog = s.prog := rfl
@[simp] theorem State.setR_inhibit (s : State) (i : Reg) (v : Byte) : (s.setR i v).inhibit = s.inhibit := rfl
@[simp] theorem State.setR_inService (s : State) (i : Reg) (v : Byte) : (s.setR i v).inService = s.inService := rfl
@[simp] theorem State.setR_sleeping (s : State) (i : Reg) (v : Byte) : (s.setR i v).sleeping = s.sleeping := rfl
@[simp] theorem State.setR_stopped (s : State) (i : Reg) (v : Byte) : (s.setR i v).stopped = s.stopped := rfl
@[simp] theorem State.setR_flashMap (s : State) (i : Reg) (v : Byte) : (s.setR i v).flashMap = s.flashMap := rfl
@[simp] theorem State.setR_hist (s : State) (i : Reg) (v : Byte) : (s.setR i v).hist = s.hist := rfl
@[simp] theorem State.setR_env (s : State) (i : Reg) (v : Byte) : (s.setR i v).env = s.env := rfl
@[simp] theorem State.setR_sleepAnswers (s : State) (i : Reg) (v : Byte) : (s.setR i v).sleepAnswers = s.sleepAnswers := rfl
@[simp] theorem State.setR_draws (s : State) (i : Reg) (v : Byte) : (s.setR i v).draws = s.draws := rfl
@[simp] theorem State.setR_cyc (s : State) (i : Reg) (v : Byte) : (s.setR i v).cyc = s.cyc := rfl

/-! ### setPair -/

@[simp] theorem State.setPair_cfg (s : State) (i : Reg) (v : BitVec 16) : (s.setPair i v).cfg = s.cfg := rfl
@[simp] theorem State.setPair_pc (s : State) (i : Reg) (v : BitVec 16) : (s.setPair i v).pc = s.pc := rfl
@[simp] theorem State.setPair_sreg (s : State) (i : Reg) (v : BitVec 16) : (s.setPair i v).sreg = s.sreg := rfl
@[simp] theorem State.setPair_sp (s : State) (i : Reg) (v : BitVec 16) : (s.setPair i v).sp = s.sp := rfl
@[simp] theorem State.setPair_rampx (s : State) (i : Reg) (v : BitVec 16) : (s.setPair i v).rampx = s.rampx := rfl
@[simp] theorem State.setPair_rampy (s : State) (i : Reg) (v : BitVec 16) : (s.setPair i v).rampy = s.rampy := rfl
@[simp] theorem State.setPair_rampz (s : State) (i : Reg) (v : BitVec 16) : (s.setPair i v).rampz = s.rampz := rfl
@[simp] theorem State.setPair_rampd (s : State) (i : Reg) (v : BitVec 16) : (s.setPair i v).rampd = s.rampd := rfl
@[simp] theorem State.setPair_eind (s : State) (i : Reg) (v : BitVec 16) : (s.setPair i v).eind = s.eind := rfl
@[simp] theorem State.setPair_data (s : State) (i : Reg) (v : BitVec 16) : (s.setPair i v).data = s.data := rfl
@[simp] theorem State.setPair_prog (s : State) (i : Reg) (v : BitVec 16) : (s.setPair i v).prog = s.prog := rfl
@[simp] theorem State.setPair_inhibit (s : State) (i : Reg) (v : BitVec 16) : (s.setPair i v).inhibit = s.inhibit := rfl
@[simp] theorem State.setPair_inService (s : State) (i : Reg) (v : BitVec 16) : (s.setPair i v).inService = s.inService := rfl
@[simp] theorem State.setPair_sleeping (s : State) (i : Reg) (v : BitVec 16) : (s.setPair i v).sleeping = s.sleeping := rfl
@[simp] theorem State.setPair_stopped (s : State) (i : Reg) (v : BitVec 16) : (s.setPair i v).stopped = s.stopped := rfl
@[simp] theorem State.setPair_flashMap (s : State) (i : Reg) (v : BitVec 16) : (s.setPair i v).flashMap = s.flashMap := rfl
@[simp] theorem State.setPair_hist (s : State) (i : Reg) (v : BitVec 16) : (s.setPair i v).hist = s.hist := rfl
@[simp] theorem State.setPair_env (s : State) (i : Reg) (v : BitVec 16) : (s.setPair i v).env = s.env := rfl
@[simp] theorem State.setPair_sleepAnswers (s : State) (i : Reg) (v : BitVec 16) : (s.setPair i v).sleepAnswers = s.sleepAnswers := rfl
@[simp] theorem State.setPair_draws (s : State) (i : Reg) (v : BitVec 16) : (s.setPair i v).draws = s.draws := rfl
@[simp] theorem State.setPair_cyc (s : State) (i : Reg) (v : BitVec 16) : (s.setPair i v).cyc = s.cyc := rfl

/-! ### setPc -/

@[simp] theorem State.setPc_cfg (s : State) (n : Nat) : (s.setPc n).cfg = s.cfg := rfl
@[simp] theorem State.setPc_regs (s : State) (n : Nat) : (s.setPc n).regs = s.regs := rfl
@[simp] theorem State.setPc_pc (s : State) (n : Nat) : (s.setPc n).pc = BitVec.ofNat 22 (n % 2 ^ s.cfg.pcBits) := rfl
@[simp] theorem State.setPc_sreg (s : State) (n : Nat) : (s.setPc n).sreg = s.sreg := rfl
@[simp] theorem State.setPc_sp (s : State) (n : Nat) : (s.setPc n).sp = s.sp := rfl
@[simp] theorem State.setPc_rampx (s : State) (n : Nat) : (s.setPc n).rampx = s.rampx := rfl
@[simp] theorem State.setPc_rampy (s : State) (n : Nat) : (s.setPc n).rampy = s.rampy := rfl
@[simp] theorem State.setPc_rampz (s : State) (n : Nat) : (s.setPc n).rampz = s.rampz := rfl
@[simp] theorem State.setPc_rampd (s : State) (n : Nat) : (s.setPc n).rampd = s.rampd := rfl
@[simp] theorem State.setPc_eind (s : State) (n : Nat) : (s.setPc n).eind = s.eind := rfl
@[simp] theorem State.setPc_data (s : State) (n : Nat) : (s.setPc n).data = s.data := rfl
@[simp] theorem State.setPc_prog (s : State) (n : Nat) : (s.setPc n).prog = s.prog := rfl
@[simp] theorem State.setPc_inhibit (s : State) (n : Nat) : (s.setPc n).inhibit = s.inhibit := rfl
@[simp] theorem State.setPc_inService (s : State) (n : Nat) : (s.setPc n).inService = s.inService := rfl
@[simp] theorem State.setPc_sleeping (s : State) (n : Nat) : (s.setPc n).sleeping = s.sleeping := rfl
@[simp] theorem State.setPc_stopped (s : State) (n : Nat) : (s.setPc n).stopped = s.stopped := rfl
@[simp] theorem State.setPc_flashMap (s : State) (n : Nat) : (s.setPc n).flashMap = s.flashMap := rfl
@[simp] theorem State.setPc_hist (s : State) (n : Nat) : (s.setPc n).hist = s.hist := rfl
@[simp] theorem State.setPc_env (s : State) (n : Nat) : (s.setPc n).env = s.env := rfl
@[simp] theorem State.setPc_sleepAnswers (s : State) (n : Nat) : (s.setPc n).sleepAnswers = s.sleepAnswers := rfl
@[simp] theorem State.setPc_draws (s : State) (n : Nat) : (s.setPc n).draws = s.draws := rfl
@[simp] theorem State.setPc_cyc (s : State) (n : Nat) : (s.setPc n).cyc = s.cyc := rfl

/-! ### advance -/

@[simp] theorem State.advance_cfg (s : State) (n : Nat) : (s.advance n).cfg = s.cfg := rfl
@[simp] theorem State.advance_regs (s : State) (n : Nat) : (s.advance n).regs = s.regs := rfl
@[simp] theorem State.advance_pc (s : State) (n : Nat) : (s.advance n).pc = BitVec.ofNat 22 ((s.pc.toNat + n) % 2 ^ s.cfg.pcBits) := rfl
@[simp] theorem State.advance_sreg (s : State) (n : Nat) : (s.advance n).sreg = s.sreg := rfl
@[simp] theorem State.advance_sp (s : State) (n : Nat) : (s.advance n).sp = s.sp := rfl
@[simp] theorem State.advance_rampx (s : State) (n : Nat) : (s.advance n).rampx = s.rampx := rfl
@[simp] theorem State.advance_rampy (s : State) (n : Nat) : (s.advance n).rampy = s.rampy := rfl
@[simp] theorem State.advance_rampz (s : State) (n : Nat) : (s.advance n).rampz = s.rampz := rfl
@[simp] theorem State.advance_rampd (s : State) (n : Nat) : (s.advance n).rampd = s.rampd := rfl
@[simp] theorem State.advance_eind (s : State) (n : Nat) : (s.advance n).eind = s.eind := rfl
@[simp] theorem State.advance_data (s : State) (n : Nat) : (s.advance n).data = s.data := rfl
@[simp] theorem State.advance_prog (s : State) (n : Nat) : (s.advance n).prog = s.prog := rfl
@[simp] theorem State.advance_inhibit (s : State) (n : Nat) : (s.advance n).inhibit = s.inhibit := rfl
@[simp] theorem State.advance_inService (s : State) (n : Nat) : (s.advance n).inService = s.inService := rfl
@[simp] theorem State.advance_sleeping (s : State) (n : Nat) : (s.advance n).sleeping = s.sleeping := rfl
@[simp] theorem State.advance_stopped (s : State) (n : Nat) : (s.advance n).stopped = s.stopped := rfl
@[simp] theorem State.advance_flashMap (s : State) (n : Nat) : (s.advance n).flashMap = s.flashMap := rfl
@[simp] theorem State.advance_hist (s : State) (n : Nat) : (s.advance n).hist = s.hist := rfl
@[simp] theorem State.advance_env (s : State) (n : Nat) : (s.advance n).env = s.env := rfl
@[simp] theorem State.advance_sleepAnswers (s : State) (n : Nat) : (s.advance n).sleepAnswers = s.sleepAnswers := rfl
@[simp] theorem State.advance_draws (s : State) (n : Nat) : (s.advance n).draws = s.draws := rfl
@[simp] theorem State.advance_cyc (s : State) (n : Nat) : (s.advance n).cyc = s.cyc := rfl

/-! ### setSreg -/

@[simp] theorem State.setSreg_cfg (s : State) (v : Byte) : (s.setSreg v).cfg = s.cfg := rfl
@[simp] theorem State.setSreg_regs (s : State) (v : Byte) : (s.setSreg v).regs = s.regs := rfl
@[simp] theorem State.setSreg_pc (s : State) (v : Byte) : (s.setSreg v).pc = s.pc := rfl
@[simp] theorem State.setSreg_sreg (s : State) (v : Byte) : (s.setSreg v).sreg = v := rfl
@[simp] theorem State.setSreg_sp (s : State) (v : Byte) : (s.setSreg v).sp = s.sp := rfl
@[simp] theorem State.setSreg_rampx (s : State) (v : Byte) : (s.setSreg v).rampx = s.rampx := rfl
@[simp] theorem State.setSreg_rampy (s : State) (v : Byte) : (s.setSreg v).rampy = s.rampy := rfl
@[simp] theorem State.setSreg_rampz (s : State) (v : Byte) : (s.setSreg v).rampz = s.rampz := rfl
@[simp] theorem State.setSreg_rampd (s : State) (v : Byte) : (s.setSreg v).rampd = s.rampd := rfl
@[simp] theorem State.setSreg_eind (s : State) (v : Byte) : (s.setSreg v).eind = s.eind := rfl
@[simp] theorem State.setSreg_data (s : State) (v : Byte) : (s.setSreg v).data = s.data := rfl
@[simp] theorem State.setSreg_prog (s : State) (v : Byte) : (s.setSreg v).prog = s.prog := rfl
@[simp] theorem State.setSreg_inhibit (s : State) (v : Byte) : (s.setSreg v).inhibit = s.inhibit := rfl
@[simp] theorem State.setSreg_inService (s : State) (v : Byte) : (s.setSreg v).inService = s.inService := rfl
@[simp] theorem State.setSreg_sleeping (s : State) (v : Byte) : (s.setSreg v).sleeping = s.sleeping := rfl
@[simp] theorem State.setSreg_stopped (s : State) (v : Byte) : (s.setSreg v).stopped = s.stopped := rfl
@[simp] theorem State.setSreg_flashMap (s : State) (v : Byte) : (s.setSreg v).flashMap = s.flashMap := rfl
@[simp] theorem State.setSreg_hist (s : State) (v : Byte) : (s.setSreg v).hist = s.hist := rfl
@[simp] theorem State.setSreg_env (s : State) (v : Byte) : (s.setSreg v).env = s.env := rfl
@[simp] theorem State.setSreg_sleepAnswers (s : State) (v : Byte) : (s.setSreg v).sleepAnswers = s.sleepAnswers := rfl
@[simp] theorem State.setSreg_draws (s : State) (v : Byte) : (s.setSreg v).draws = s.draws := rfl
@[simp] theorem State.setSreg_cyc (s : State) (v : Byte) : (s.setSreg v).cyc = s.cyc := rfl

/-! ### storeSreg -/

@[simp] theorem State.storeSreg_cfg (s : State) (v : Byte) : (s.storeSreg v).cfg = s.cfg := rfl
@[simp] theorem State.storeSreg_regs (s : State) (v : Byte) : (s.storeSreg v).regs = s.regs := rfl
@[simp] theorem State.storeSreg_pc (s : State) (v : Byte) : (s.storeSreg v).pc = s.pc := rfl
@[simp] theorem State.storeSreg_sreg (s : State) (v : Byte) : (s.storeSreg v).sreg = v := rfl
@[simp] theorem State.storeSreg_sp (s : State) (v : Byte) : (s.storeSreg v).sp = s.sp := rfl
@[simp] theorem State.storeSreg_rampx (s : State) (v : Byte) : (s.storeSreg v).rampx = s.rampx := rfl
@[simp] theorem State.storeSreg_rampy (s : State) (v : Byte) : (s.storeSreg v).rampy = s.rampy := rfl
@[simp] theorem State.storeSreg_rampz (s : State) (v : Byte) : (s.storeSreg v).rampz = s.rampz := rfl
@[simp] theorem State.storeSreg_rampd (s : State) (v : Byte) : (s.storeSreg v).rampd = s.rampd := rfl
@[simp] theorem State.storeSreg_eind (s : State) (v : Byte) : (s.storeSreg v).eind = s.eind := rfl
@[simp] theorem State.storeSreg_data (s : State) (v : Byte) : (s.storeSreg v).data = s.data := rfl
@[simp] theorem State.storeSreg_prog (s : State) (v : Byte) : (s.storeSreg v).prog = s.prog := rfl
@[simp] theorem State.storeSreg_inhibit (s : State) (v : Byte) : (s.storeSreg v).inhibit = (s.inhibit || (!flagI s.sreg && flagI v)) := rfl
@[simp] theorem State.storeSreg_inService (s : State) (v : Byte) : (s.storeSreg v).inService = s.inService := rfl
@[simp] theorem State.storeSreg_sleeping (s : State) (v : Byte) : (s.storeSreg v).sleeping = s.sleeping := rfl
@[simp] theorem State.storeSreg_stopped (s : State) (v : Byte) : (s.storeSreg v).stopped = s.stopped := rfl
@[simp] theorem State.storeSreg_flashMap (s : State) (v : Byte) : (s.storeSreg v).flashMap = s.flashMap := rfl
@[simp] theorem State.storeSreg_hist (s : State) (v : Byte) : (s.storeSreg v).hist = s.hist := rfl
@[simp] theorem State.storeSreg_env (s : State) (v : Byte) : (s.storeSreg v).env = s.env := rfl
@[simp] theorem State.storeSreg_sleepAnswers (s : State) (v : Byte) : (s.storeSreg v).sleepAnswers = s.sleepAnswers := rfl
@[simp] theorem State.storeSreg_draws (s : State) (v : Byte) : (s.storeSreg v).draws = s.draws := rfl
@[simp] theorem State.storeSreg_cyc (s : State) (v : Byte) : (s.storeSreg v).cyc = s.cyc := rfl

/-! ### setSp -/

@[simp] theorem State.setSp_cfg (s : State) (n : Nat) : (s.setSp n).cfg = s.cfg := rfl
@[simp] theorem State.setSp_regs (s : State) (n : Nat) : (s.setSp n).regs = s.regs := rfl
@[simp] theorem State.setSp_pc (s : State) (n : Nat) : (s.setSp n).pc = s.pc := rfl
@[simp] theorem State.setSp_sreg (s : State) (n : Nat) : (s.setSp n).sreg = s.sreg := rfl
@[simp] theorem State.setSp_sp (s : State) (n : Nat) : (s.setSp n).sp = BitVec.ofNat 16 (n % 2 ^ s.cfg.spBits) := rfl
@[simp] theorem State.setSp_rampx (s : State) (n : Nat) : (s.setSp n).rampx = s.rampx := rfl
@[simp] theorem State.setSp_rampy (s : State) (n : Nat) : (s.setSp n).rampy = s.rampy := rfl
@[simp] theorem State.setSp_rampz (s : State) (n : Nat) : (s.setSp n).rampz = s.rampz := rfl
@[simp] theorem State.setSp_rampd (s : State) (n : Nat) : (s.setSp n).rampd = s.rampd := rfl
@[simp] theorem State.setSp_eind (s : State) (n : Nat) : (s.setSp n).eind = s.eind := rfl
@[simp] theorem State.setSp_data (s : State) (n : Nat) : (s.setSp n).data = s.data := rfl
@[simp] theorem State.setSp_prog (s : State) (n : Nat) : (s.setSp n).prog = s.prog := rfl
@[simp] theorem State.setSp_inhibit (s : State) (n : Nat) : (s.setSp n).inhibit = s.inhibit := rfl
@[simp] theorem State.setSp_inService (s : State) (n : Nat) : (s.setSp n).inService = s.inService := rfl
@[simp] theorem State.setSp_sleeping (s : State) (n : Nat) : (s.setSp n).sleeping = s.sleeping := rfl
@[simp] theorem State.setSp_stopped (s : State) (n : Nat) : (s.setSp n).stopped = s.stopped := rfl
@[simp] theorem State.setSp_flashMap (s : State) (n : Nat) : (s.setSp n).flashMap = s.flashMap := rfl
@[simp] theorem State.setSp_hist (s : State) (n : Nat) : (s.setSp n).hist = s.hist := rfl
@[simp] theorem State.setSp_env (s : State) (n : Nat) : (s.setSp n).env = s.env := rfl
@[simp] theorem State.setSp_sleepAnswers (s : State) (n : Nat) : (s.setSp n).sleepAnswers = s.sleepAnswers := rfl
@[simp] theorem State.setSp_draws (s : State) (n : Nat) : (s.setSp n).draws = s.draws := rfl
@[simp] theorem State.setSp_cyc (s : State) (n : Nat) : (s.setSp n).cyc = s.cyc := rfl

/-! ### spmDevice -/

@[simp] theorem State.spmDevice_cfg (s : State) (a : Nat) (w : Word) : (s.spmDevice a w).cfg = s.cfg := rfl
@[simp] theorem State.spmDevice_regs (s : State) (a : Nat) (w : Word) : (s.spmDevice a w).regs = s.regs := rfl
@[simp] theorem State.spmDevice_pc (s : State) (a : Nat) (w : Word) : (s.spmDevice a w).pc = s.pc := rfl
@[simp] theorem State.spmDevice_sreg (s : State) (a : Nat) (w : Word) : (s.spmDevice a w).sreg = s.sreg := rfl
@[simp] theorem State.spmDevice_sp (s : State) (a : Nat) (w : Word) : (s.spmDevice a w).sp = s.sp := rfl
@[simp] theorem State.spmDevice_rampx (s : State) (a : Nat) (w : Word) : (s.spmDevice a w).rampx = s.rampx := rfl
@[simp] theorem State.spmDevice_rampy (s : State) (a : Nat) (w : Word) : (s.spmDevice a w).rampy = s.rampy := rfl
@[simp] theorem State.spmDevice_rampz (s : State) (a : Nat) (w : Word) : (s.spmDevice a w).rampz = s.rampz := rfl
@[simp] theorem State.spmDevice_rampd (s : State) (a : Nat) (w : Word) : (s.spmDevice a w).rampd = s.rampd := rfl
@[simp] theorem State.spmDevice_eind (s : State) (a : Nat) (w : Word) : (s.spmDevice a w).eind = s.eind := rfl
@[simp] theorem State.spmDevice_data (s : State) (a : Nat) (w : Word) : (s.spmDevice a w).data = s.data := rfl
@[simp] theorem State.spmDevice_inhibit (s : State) (a : Nat) (w : Word) : (s.spmDevice a w).inhibit = s.inhibit := rfl
@[simp] theorem State.spmDevice_inService (s : State) (a : Nat) (w : Word) : (s.spmDevice a w).inService = s.inService := rfl
@[simp] theorem State.spmDevice_sleeping (s : State) (a : Nat) (w : Word) : (s.spmDevice a w).sleeping = s.sleeping := rfl
@[simp] theorem State.spmDevice_stopped (s : State) (a : Nat) (w : Word) : (s.spmDevice a w).stopped = s.stopped := rfl
@[simp] theorem State.spmDevice_flashMap (s : State) (a : Nat) (w : Word) : (s.spmDevice a w).flashMap = s.flashMap := rfl
@[simp] theorem State.spmDevice_env (s : State) (a : Nat) (w : Word) : (s.spmDevice a w).env = s.env := rfl
@[simp] theorem State.spmDevice_sleepAnswers (s : State) (a : Nat) (w : Word) : (s.spmDevice a w).sleepAnswers = s.sleepAnswers := rfl
@[simp] theorem State.spmDevice_draws (s : State) (a : Nat) (w : Word) : (s.spmDevice a w).draws = s.draws := rfl
@[simp] theorem State.spmDevice_cyc (s : State) (a : Nat) (w : Word) : (s.spmDevice a w).cyc = s.cyc := rfl
@[simp] theorem State.spmDevice_prog (s : State) (a : Nat) (w : Word) :
    (s.spmDevice a w).prog = storeWords s.cfg.flashEnd s.prog (Config.spmWrites { s with cyc := 0 } a w) := rfl
@[simp] theorem State.spmDevice_hist (s : State) (a : Nat) (w : Word) :
    (s.spmDevice a w).hist = s.hist ++ [.spm a w] := rfl

/-! ### event -/

@[simp] theorem State.event_cfg (s : State) (e : IoEvent) : (s.event e).cfg = s.cfg := rfl
@[simp] theorem State.event_regs (s : State) (e : IoEvent) : (s.event e).regs = s.regs := rfl
@[simp] theorem State.event_pc (s : State) (e : IoEvent) : (s.event e).pc = s.pc := rfl
@[simp] theorem State.event_sreg (s : State) (e : IoEvent) : (s.event e).sreg = s.sreg := rfl
@[simp] theorem State.event_sp (s : State) (e : IoEvent) : (s.event e).sp = s.sp := rfl
@[simp] theorem State.event_rampx (s : State) (e : IoEvent) : (s.event e).rampx = s.rampx := rfl
@[simp] theorem State.event_rampy (s : State) (e : IoEvent) : (s.event e).rampy = s.rampy := rfl
@[simp] theorem State.event_rampz (s : State) (e : IoEvent) : (s.event e).rampz = s.rampz := rfl
@[simp] theorem State.event_rampd (s : State) (e : IoEvent) : (s.event e).rampd = s.rampd := rfl
@[simp] theorem State.event_eind (s : State) (e : IoEvent) : (s.event e).eind = s.eind := rfl
@[simp] theorem State.event_data (s : State) (e : IoEvent) : (s.event e).data = s.data := rfl
@[simp] theorem State.event_prog (s : State) (e : IoEvent) : (s.event e).prog = s.prog := rfl
@[simp] theorem State.event_inhibit (s : State) (e : IoEvent) : (s.event e).inhibit = s.inhibit := rfl
@[simp] theorem State.event_inService (s : State) (e : IoEvent) : (s.event e).inService = s.inService := rfl
@[simp] theorem State.event_sleeping (s : State) (e : IoEvent) : (s.event e).sleeping = s.sleeping := rfl
@[simp] theorem State.event_stopped (s : State) (e : IoEvent) : (s.event e).stopped = s.stopped := rfl
@[simp] theorem State.event_flashMap (s : State) (e : IoEvent) : (s.event e).flashMap = s.flashMap := rfl
@[simp] theorem State.event_hist (s : State) (e : IoEvent) : (s.event e).hist = s.hist ++ [e] := rfl
@[simp] theorem State.event_env (s : State) (e : IoEvent) : (s.event e).env = s.env := rfl
@[simp] theorem State.event_sleepAnswers (s : State) (e : IoEvent) : (s.event e).sleepAnswers = s.sleepAnswers := rfl
@[simp] theorem State.event_draws (s : State) (e : IoEvent) : (s.event e).draws = s.draws := rfl
@[simp] theorem State.event_cyc (s : State) (e : IoEvent) : (s.event e).cyc = s.cyc := rfl

/-! ### ramWrite -/

@[simp] theorem State.ramWrite_cfg (s : State) (a : Nat) (v : Byte) : (s.ramWrite a v).cfg = s.cfg := rfl
@[simp] theorem State.ramWrite_regs (s : State) (a : Nat) (v : Byte) : (s.ramWrite a v).regs = s.regs := rfl
@[simp] theorem State.ramWrite_pc (s : State) (a : Nat) (v : Byte) : (s.ramWrite a v).pc = s.pc := rfl
@[simp] theorem State.ramWrite_sreg (s : State) (a : Nat) (v : Byte) : (s.ramWrite a v).sreg = s.sreg := rfl
@[simp] theorem State.ramWrite_sp (s : State) (a : Nat) (v : Byte) : (s.ramWrite a v).sp = s.sp := rfl
@[simp] theorem State.ramWrite_rampx (s : State) (a : Nat) (v : Byte) : (s.ramWrite a v).rampx = s.rampx := rfl
@[simp] theorem State.ramWrite_rampy (s : State) (a : Nat) (v : Byte) : (s.ramWrite a v).rampy = s.rampy := rfl
@[simp] theorem State.ramWrite_rampz (s : State) (a : Nat) (v : Byte) : (s.ramWrite a v).rampz = s.rampz := rfl
@[simp] theorem State.ramWrite_rampd (s : State) (a : Nat) (v : Byte) : (s.ramWrite a v).rampd = s.rampd := rfl
@[simp] theorem State.ramWrite_eind (s : State) (a : Nat) (v : Byte) : (s.ramWrite a v).eind = s.eind := rfl
@[simp] theorem State.ramWrite_data (s : State) (a : Nat) (v : Byte) : (s.ramWrite a v).data = s.data.insert a v := rfl
@[simp] theorem State.ramWrite_prog (s : State) (a : Nat) (v : Byte) : (s.ramWrite a v).prog = s.prog := rfl
@[simp] theorem State.ramWrite_inhibit (s : State) (a : Nat) (v : Byte) : (s.ramWrite a v).inhibit = s.inhibit := rfl
@[simp] theorem State.ramWrite_inService (s : State) (a : Nat) (v : Byte) : (s.ramWrite a v).inService = s.inService := rfl
@[simp] theorem State.ramWrite_sleeping (s : State) (a : Nat) (v : Byte) : (s.ramWrite a v).sleeping = s.sleeping := rfl
@[simp] theorem State.ramWrite_stopped (s : State) (a : Nat) (v : Byte) : (s.ramWrite a v).stopped = s.stopped := rfl
@[simp] theorem State.ramWrite_flashMap (s : State) (a : Nat) (v : Byte) : (s.ramWrite a v).flashMap = s.flashMap := rfl
@[simp] theorem State.ramWrite_hist (s : State) (a : Nat) (v : Byte) : (s.ramWrite a v).hist = s.hist := rfl
@[simp] theorem State.ramWrite_env (s : State) (a : Nat) (v : Byte) : (s.ramWrite a v).env = s.env := rfl
@[simp] theorem State.ramWrite_sleepAnswers (s : State) (a : Nat) (v : Byte) : (s.ramWrite a v).sleepAnswers = s.sleepAnswers := rfl
@[simp] theorem State.ramWrite_draws (s : State) (a : Nat) (v : Byte) : (s.ramWrite a v).draws = s.draws := rfl
@[simp] theorem State.ramWrite_cyc (s : State) (a : Nat) (v : Byte) : (s.ramWrite a v).cyc = s.cyc := rfl

/-! ### irqReturn -/

@[simp] theorem State.irqReturn_cfg (s : State) : (s.irqReturn).cfg = s.cfg := rfl
@[simp] theorem State.irqReturn_regs (s : State) : (s.irqReturn).regs = s.regs := rfl
@[simp] theorem State.irqReturn_pc (s : State) : (s.irqReturn).pc = s.pc := rfl
@[simp] theorem State.irqReturn_sreg (s : State) : (s.irqReturn).sreg = s.sreg := rfl
@[simp] theorem State.irqReturn_sp (s : State) : (s.irqReturn).sp = s.sp := rfl
@[simp] theorem State.irqReturn_rampx (s : State) : (s.irqReturn).rampx = s.rampx := rfl
@[simp] theorem State.irqReturn_rampy (s : State) : (s.irqReturn).rampy = s.rampy := rfl
@[simp] theorem State.irqReturn_rampz (s : State) : (s.irqReturn).rampz = s.rampz := rfl
@[simp] theorem State.irqReturn_rampd (s : State) : (s.irqReturn).rampd = s.rampd := rfl
@[simp] theorem State.irqReturn_eind (s : State) : (s.irqReturn).eind = s.eind := rfl
@[simp] theorem State.irqReturn_data (s : State) : (s.irqReturn).data = s.data := rfl
@[simp] theorem State.irqReturn_prog (s : State) : (s.irqReturn).prog = s.prog := rfl
@[simp] theorem State.irqReturn_inhibit (s : State) : (s.irqReturn).inhibit = true := rfl
@[simp] theorem State.irqReturn_inService (s : State) : (s.irqReturn).inService = s.inService.tail := rfl
@[simp] theorem State.irqReturn_sleeping (s : State) : (s.irqReturn).sleeping = s.sleeping := rfl
@[simp] theorem State.irqReturn_stopped (s : State) : (s.irqReturn).stopped = s.stopped := rfl
@[simp] theorem State.irqReturn_flashMap (s : State) : (s.irqReturn).flashMap = s.flashMap := rfl
@[simp] theorem State.irqReturn_hist (s : State) : (s.irqReturn).hist = s.hist := rfl
@[simp] theorem State.irqReturn_env (s : State) : (s.irqReturn).env = s.env := rfl
@[simp] theorem State.irqReturn_sleepAnswers (s : State) : (s.irqReturn).sleepAnswers = s.sleepAnswers := rfl
@[simp] theorem State.irqReturn_draws (s : State) : (s.irqReturn).draws = s.draws := rfl
@[simp] theorem State.irqReturn_cyc (s : State) : (s.irqReturn).cyc = s.cyc := rfl

/-! ### takeEnv -/

@[simp] theorem State.takeEnv_cfg (s : State) : (s.takeEnv).cfg = s.cfg := rfl
@[simp] theorem State.takeEnv_regs (s : State) : (s.takeEnv).regs = s.regs := rfl
@[simp] theorem State.takeEnv_pc (s : State) : (s.takeEnv).pc = s.pc := rfl
@[simp] theorem State.takeEnv_sreg (s : State) : (s.takeEnv).sreg = s.sreg := rfl
@[simp] theorem State.takeEnv_sp (s : State) : (s.takeEnv).sp = s.sp := rfl
@[simp] theorem State.takeEnv_rampx (s : State) : (s.takeEnv).rampx = s.rampx := rfl
@[simp] theorem State.takeEnv_rampy (s : State) : (s.takeEnv).rampy = s.rampy := rfl
@[simp] theorem State.takeEnv_rampz (s : State) : (s.takeEnv).rampz = s.rampz := rfl
@[simp] theorem State.takeEnv_rampd (s : State) : (s.takeEnv).rampd = s.rampd := rfl
@[simp] theorem State.takeEnv_eind (s : State) : (s.takeEnv).eind = s.eind := rfl
@[simp] theorem State.takeEnv_data (s : State) : (s.takeEnv).data = s.data := rfl
@[simp] theorem State.takeEnv_prog (s : State) : (s.takeEnv).prog = s.prog := rfl
@[simp] theorem State.takeEnv_inhibit (s : State) : (s.takeEnv).inhibit = s.inhibit := rfl
@[simp] theorem State.takeEnv_inService (s : State) : (s.takeEnv).inService = s.inService := rfl
@[simp] theorem State.takeEnv_sleeping (s : State) : (s.takeEnv).sleeping = s.sleeping := rfl
@[simp] theorem State.takeEnv_stopped (s : State) : (s.takeEnv).stopped = s.stopped := rfl
@[simp] theorem State.takeEnv_hist (s : State) : (s.takeEnv).hist = s.hist := rfl
@[simp] theorem State.takeEnv_env (s : State) : (s.takeEnv).env = s.env.tail := rfl
@[simp] theorem State.takeEnv_sleepAnswers (s : State) : (s.takeEnv).sleepAnswers = s.sleepAnswers := rfl
@[simp] theorem State.takeEnv_draws (s : State) : (s.takeEnv).draws = s.draws := rfl
@[simp] theorem State.takeEnv_cyc (s : State) : (s.takeEnv).cyc = s.cyc := rfl

/-! ### setRampx -/

@[simp] theorem State.setRampx_cfg (s : State) (v : Byte) : (s.setRampx v).cfg = s.cfg := rfl
@[simp] theorem State.setRampx_regs (s : State) (v : Byte) : (s.setRampx v).regs = s.regs := rfl
@[simp] theorem State.setRampx_pc (s : State) (v : Byte) : (s.setRampx v).pc = s.pc := rfl
@[simp] theorem State.setRampx_sreg (s : State) (v : Byte) : (s.setRampx v).sreg = s.sreg := rfl
@[simp] theorem State.setRampx_sp (s : State) (v : Byte) : (s.setRampx v).sp = s.sp := rfl
@[simp] theorem State.setRampx_rampx (s : State) (v : Byte) : (s.setRampx v).rampx = if s.cfg.hasRampx then v else s.rampx := rfl
@[simp] theorem State.setRampx_rampy (s : State) (v : Byte) : (s.setRampx v).rampy = s.rampy := rfl
@[simp] theorem State.setRampx_rampz (s : State) (v : Byte) : (s.setRampx v).rampz = s.rampz := rfl
@[simp] theorem State.setRampx_rampd (s : State) (v : Byte) : (s.setRampx v).rampd = s.rampd := rfl
@[simp] theorem State.setRampx_eind (s : State) (v : Byte) : (s.setRampx v).eind = s.eind := rfl
@[simp] theorem State.setRampx_data (s : State) (v : Byte) : (s.setRampx v).data = s.data := rfl
@[simp] theorem State.setRampx_prog (s : State) (v : Byte) : (s.setRampx v).prog = s.prog := rfl
@[simp] theorem State.setRampx_inhibit (s : State) (v : Byte) : (s.setRampx v).inhibit = s.inhibit := rfl
@[simp] theorem State.setRampx_inService (s : State) (v : Byte) : (s.setRampx v).inService = s.inService := rfl
@[simp] theorem State.setRampx_sleeping (s : State) (v : Byte) : (s.setRampx v).sleeping = s.sleeping := rfl
@[simp] theorem State.setRampx_stopped (s : State) (v : Byte) : (s.setRampx v).stopped = s.stopped := rfl
@[simp] theorem State.setRampx_flashMap (s : State) (v : Byte) : (s.setRampx v).flashMap = s.flashMap := rfl
@[simp] theorem State.setRampx_hist (s : State) (v : Byte) : (s.setRampx v).hist = s.hist := rfl
@[simp] theorem State.setRampx_env (s : State) (v : Byte) : (s.setRampx v).env = s.env := rfl
@[simp] theorem State.setRampx_sleepAnswers (s : State) (v : Byte) : (s.setRampx v).sleepAnswers = s.sleepAnswers := rfl
@[simp] theorem State.setRampx_draws (s : State) (v : Byte) : (s.setRampx v).draws = s.draws := rfl
@[simp] theorem State.setRampx_cyc (s : State) (v : Byte) : (s.setRampx v).cyc = s.cyc := rfl

/-! ### setRampy -/

@[simp] theorem State.setRampy_cfg (s : State) (v : Byte) : (s.setRampy v).cfg = s.cfg := rfl
@[simp] theorem State.setRampy_regs (s : State) (v : Byte) : (s.setRampy v).regs = s.regs := rfl
@[simp] theorem State.setRampy_pc (s : State) (v : Byte) : (s.setRampy v).pc = s.pc := rfl
@[simp] theorem State.setRampy_sreg (s : State) (v : Byte) : (s.setRampy v).sreg = s.sreg := rfl
@[simp] theorem State.setRampy_sp (s : State) (v : Byte) : (s.setRampy v).sp = s.sp := rfl
@[simp] theorem State.setRampy_rampx (s : State) (v : Byte) : (s.setRampy v).rampx = s.rampx := rfl
@[simp] theorem State.setRampy_rampy (s : State) (v : Byte) : (s.setRampy v).rampy = if s.cfg.hasRampy then v else s.rampy := rfl
@[simp] theorem State.setRampy_rampz (s : State) (v : Byte) : (s.setRampy v).rampz = s.rampz := rfl
@[simp] theorem State.setRampy_rampd (s : State) (v : Byte) : (s.setRampy v).rampd = s.rampd := rfl
@[simp] theorem State.setRampy_eind (s : State) (v : Byte) : (s.setRampy v).eind = s.eind := rfl
@[simp] theorem State.setRampy_data (s : State) (v : Byte) : (s.setRampy v).data = s.data := rfl
@[simp] theorem State.setRampy_prog (s : State) (v : Byte) : (s.setRampy v).prog = s.prog := rfl
@[simp] theorem State.setRampy_inhibit (s : State) (v : Byte) : (s.setRampy v).inhibit = s.inhibit := rfl
@[simp] theorem State.setRampy_inService (s : State) (v : Byte) : (s.setRampy v).inService = s.inService := rfl
@[simp] theorem State.setRampy_sleeping (s : State) (v : Byte) : (s.setRampy v).sleeping = s.sleeping := rfl
@[simp] theorem State.setRampy_stopped (s : State) (v : Byte) : (s.setRampy v).stopped = s.stopped := rfl
@[simp] theorem State.setRampy_flashMap (s : State) (v : Byte) : (s.setRampy v).flashMap = s.flashMap := rfl
@[simp] theorem State.setRampy_hist (s : State) (v : Byte) : (s.setRampy v).hist = s.hist := rfl
@[simp] theorem State.setRampy_env (s : State) (v : Byte) : (s.setRampy v).env = s.env := rfl
@[simp] theorem State.setRampy_sleepAnswers (s : State) (v : Byte) : (s.setRampy v).sleepAnswers = s.sleepAnswers := rfl
@[simp] theorem State.setRampy_draws (s : State) (v : Byte) : (s.setRampy v).draws = s.draws := rfl
@[simp] theorem State.setRampy_cyc (s : State) (v : Byte) : (s.setRampy v).cyc = s.cyc := rfl

/-! ### setRampz -/

@[simp] theorem State.setRampz_cfg (s : State) (v : Byte) : (s.setRampz v).cfg = s.cfg := rfl
@[simp] theorem State.setRampz_regs (s : State) (v : Byte) : (s.setRampz v).regs = s.regs := rfl
@[simp] theorem State.setRampz_pc (s : State) (v : Byte) : (s.setRampz v).pc = s.pc := rfl
@[simp] theorem State.setRampz_sreg (s : State) (v : Byte) : (s.setRampz v).sreg = s.sreg := rfl
@[simp] theorem State.setRampz_sp (s : State) (v : Byte) : (s.setRampz v).sp = s.sp := rfl
@[simp] theorem State.setRampz_rampx (s : State) (v : Byte) : (s.setRampz v).rampx = s.rampx := rfl
@[simp] theorem State.setRampz_rampy (s : State) (v : Byte) : (s.setRampz v).rampy = s.rampy := rfl
@[simp] theorem State.setRampz_rampz (s : State) (v : Byte) : (s.setRampz v).rampz = if s.cfg.hasRampz then v else s.rampz := rfl
@[simp] theorem State.setRampz_rampd (s : State) (v : Byte) : (s.setRampz v).rampd = s.rampd := rfl
@[simp] theorem State.setRampz_eind (s : State) (v : Byte) : (s.setRampz v).eind = s.eind := rfl
@[simp] theorem State.setRampz_data (s : State) (v : Byte) : (s.setRampz v).data = s.data := rfl
@[simp] theorem State.setRampz_prog (s : State) (v : Byte) : (s.setRampz v).prog = s.prog := rfl
@[simp] theorem State.setRampz_inhibit (s : State) (v : Byte) : (s.setRampz v).inhibit = s.inhibit := rfl
@[simp] theorem State.setRampz_inService (s : State) (v : Byte) : (s.setRampz v).inService = s.inService := rfl
@[simp] theorem State.setRampz_sleeping (s : State) (v : Byte) : (s.setRampz v).sleeping = s.sleeping := rfl
@[simp] theorem State.setRampz_stopped (s : State) (v : Byte) : (s.setRampz v).stopped = s.stopped := rfl
@[simp] theorem State.setRampz_flashMap (s : State) (v : Byte) : (s.setRampz v).flashMap = s.flashMap := rfl
@[simp] theorem State.setRampz_hist (s : State) (v : Byte) : (s.setRampz v).hist = s.hist := rfl
@[simp] theorem State.setRampz_env (s : State) (v : Byte) : (s.setRampz v).env = s.env := rfl
@[simp] theorem State.setRampz_sleepAnswers (s : State) (v : Byte) : (s.setRampz v).sleepAnswers = s.sleepAnswers := rfl
@[simp] theorem State.setRampz_draws (s : State) (v : Byte) : (s.setRampz v).draws = s.draws := rfl
@[simp] theorem State.setRampz_cyc (s : State) (v : Byte) : (s.setRampz v).cyc = s.cyc := rfl

/-! ### setRampd -/

@[simp] theorem State.setRampd_cfg (s : State) (v : Byte) : (s.setRampd v).cfg = s.cfg := rfl
@[simp] theorem State.setRampd_regs (s : State) (v : Byte) : (s.setRampd v).regs = s.regs := rfl
@[simp] theorem State.setRampd_pc (s : State) (v : Byte) : (s.setRampd v).pc = s.pc := rfl
@[simp] theorem State.setRampd_sreg (s : State) (v : Byte) : (s.setRampd v).sreg = s.sreg := rfl
@[simp] theorem State.setRampd_sp (s : State) (v : Byte) : (s.setRampd v).sp = s.sp := rfl
@[simp] theorem State.setRampd_rampx (s : State) (v : Byte) : (s.setRampd v).rampx = s.rampx := rfl
@[simp] theorem State.setRampd_rampy (s : State) (v : Byte) : (s.setRampd v).rampy = s.rampy := rfl
@[simp] theorem State.setRampd_rampz (s : State) (v : Byte) : (s.setRampd v).rampz = s.rampz := rfl
@[simp] theorem State.setRampd_rampd (s : State) (v : Byte) : (s.setRampd v).rampd = if s.cfg.hasRampd then v else s.rampd := rfl
@[simp] theorem State.setRampd_eind (s : State) (v : Byte) : (s.setRampd v).eind = s.eind := rfl
@[simp] theorem State.setRampd_data (s : State) (v : Byte) : (s.setRampd v).data = s.data := rfl
@[simp] theorem State.setRampd_prog (s : State) (v : Byte) : (s.setRampd v).prog = s.prog := rfl
@[simp] theorem State.setRampd_inhibit (s : State) (v : Byte) : (s.setRampd v).inhibit = s.inhibit := rfl
@[simp] theorem State.setRampd_inService (s : State) (v : Byte) : (s.setRampd v).inService = s.inService := rfl
@[simp] theorem State.setRampd_sleeping (s : State) (v : Byte) : (s.setRampd v).sleeping = s.sleeping := rfl
@[simp] theorem State.setRampd_stopped (s : State) (v : Byte) : (s.setRampd v).stopped = s.stopped := rfl
@[simp] theorem State.setRampd_flashMap (s : State) (v : Byte) : (s.setRampd v).flashMap = s.flashMap := rfl
@[simp] theorem State.setRampd_hist (s : State) (v : Byte) : (s.setRampd v).hist = s.hist := rfl
@[simp] theorem State.setRampd_env (s : State) (v : Byte) : (s.setRampd v).env = s.env := rfl
@[simp] theorem State.setRampd_sleepAnswers (s : State) (v : Byte) : (s.setRampd v).sleepAnswers = s.sleepAnswers := rfl
@[simp] theorem State.setRampd_draws (s : State) (v : Byte) : (s.setRampd v).draws = s.draws := rfl
@[simp] theorem State.setRampd_cyc (s : State) (v : Byte) : (s.setRampd v).cyc = s.cyc := rfl

/-! ### setEind -/

@[simp] theorem State.setEind_cfg (s : State) (v : Byte) : (s.setEind v).cfg = s.cfg := rfl
@[simp] theorem State.setEind_regs (s : State) (v : Byte) : (s.setEind v).regs = s.regs := rfl
@[simp] theorem State.setEind_pc (s : State) (v : Byte) : (s.setEind v).pc = s.pc := rfl
@[simp] theorem State.setEind_sreg (s : State) (v : Byte) : (s.setEind v).sreg = s.sreg := rfl
@[simp] theorem State.setEind_sp (s : State) (v : Byte) : (s.setEind v).sp = s.sp := rfl
@[simp] theorem State.setEind_rampx (s : State) (v : Byte) : (s.setEind v).rampx = s.rampx := rfl
@[simp] theorem State.setEind_rampy (s : State) (v : Byte) : (s.setEind v).rampy = s.rampy := rfl
@[simp] theorem State.setEind_rampz (s : State) (v : Byte) : (s.setEind v).rampz = s.rampz := rfl
@[simp] theorem State.setEind_rampd (s : State) (v : Byte) : (s.setEind v).rampd = s.rampd := rfl
@[simp] theorem State.setEind_eind (s : State) (v : Byte) : (s.setEind v).eind = if s.cfg.hasEind then v else s.eind := rfl
@[simp] theorem State.setEind_data (s : State) (v : Byte) : (s.setEind v).data = s.data := rfl
@[simp] theorem State.setEind_prog (s : State) (v : Byte) : (s.setEind v).prog = s.prog := rfl
@[simp] theorem State.setEind_inhibit (s : State) (v : Byte) : (s.setEind v).inhibit = s.inhibit := rfl
@[simp] theorem State.setEind_inService (s : State) (v : Byte) : (s.setEind v).inService = s.inService := rfl
@[simp] theorem State.setEind_sleeping (s : State) (v : Byte) : (s.setEind v).sleeping = s.sleeping := rfl
@[simp] theorem State.setEind_stopped (s : State) (v : Byte) : (s.setEind v).stopped = s.stopped := rfl
@[simp] theorem State.setEind_flashMap (s : State) (v : Byte) : (s.setEind v).flashMap = s.flashMap := rfl
@[simp] theorem State.setEind_hist (s : State) (v : Byte) : (s.setEind v).hist = s.hist := rfl
@[simp] theorem State.setEind_env (s : State) (v : Byte) : (s.setEind v).env = s.env := rfl
@[simp] theorem State.setEind_sleepAnswers (s : State) (v : Byte) : (s.setEind v).sleepAnswers = s.sleepAnswers := rfl
@[simp] theorem State.setEind_draws (s : State) (v : Byte) : (s.setEind v).draws = s.draws := rfl
@[simp] theorem State.setEind_cyc (s : State) (v : Byte) : (s.setEind v).cyc = s.cyc := rfl

/-! ### The register file -/

theorem State.setR_r (s : State) (i j : Reg) (v : Byte) : (s.setR i v).r j = if i = j then v else s.r j := by
  show (s.regs.set i.val v i.isLt)[j.val] = _
  rw [Vector.getElem_set]
  by_cases h : i = j
  · simp [h]
  · rw [if_neg (fun e => h (Fin.ext e)), if_neg h]; rfl

@[simp] theorem State.setR_r_self (s : State) (i : Reg) (v : Byte) : (s.setR i v).r i = v := by
  rw [State.setR_r, if_pos rfl]

theorem State.setR_r_ne (s : State) (i j : Reg) (v : Byte) (h : i ≠ j) : (s.setR i v).r j = s.r j := by
  rw [State.setR_r, if_neg h]

/-- The pair is written low byte first, so that the high register wins where they coincide (they never do). -/
theorem State.setPair_r (s : State) (i j : Reg) (v : BitVec 16) :
    (s.setPair i v).r j = if i + 1 = j then v.extractLsb' 8 8 else if i = j then v.extractLsb' 0 8 else s.r j := by
  rw [State.setPair, State.setR_r, State.setR_r]

/-- No register is its own successor. -/
theorem Reg.ne_succ (i : Reg) : i ≠ i + 1 := by revert i; decide

theorem Reg.succ_ne (i : Reg) : i + 1 ≠ i := by revert i; decide

@[simp] theorem State.pair_setPair (s : State) (i : Reg) (v : BitVec 16) : (s.setPair i v).pair i = v := by
  rw [State.pair, State.setPair_r, State.setPair_r, if_pos rfl, if_neg (Reg.succ_ne i), if_pos rfl]
  ext j hj
  simp only [BitVec.getElem_append, BitVec.getElem_extractLsb']
  split <;> rename_i h
  · simp [hj]
  · rw [show 8 + (j - 8) = j by omega]; exact BitVec.getLsbD_eq_getElem hj

@[simp] theorem State.setPc_r (s : State) (n : Nat) (i : Reg) : (s.setPc n).r i = s.r i := rfl
@[simp] theorem State.advance_r (s : State) (n : Nat) (i : Reg) : (s.advance n).r i = s.r i := rfl
@[simp] theorem State.setSreg_r (s : State) (v : Byte) (i : Reg) : (s.setSreg v).r i = s.r i := rfl
@[simp] theorem State.storeSreg_r (s : State) (v : Byte) (i : Reg) : (s.storeSreg v).r i = s.r i := rfl
@[simp] theorem State.setSp_r (s : State) (n : Nat) (i : Reg) : (s.setSp n).r i = s.r i := rfl
@[simp] theorem State.event_r (s : State) (e : IoEvent) (i : Reg) : (s.event e).r i = s.r i := rfl
@[simp] theorem State.ramWrite_r (s : State) (a : Nat) (v : Byte) (i : Reg) : (s.ramWrite a v).r i = s.r i := rfl
@[simp] theorem State.irqReturn_r (s : State) (i : Reg) : (s.irqReturn).r i = s.r i := rfl
@[simp] theorem State.takeEnv_r (s : State) (i : Reg) : (s.takeEnv).r i = s.r i := rfl
@[simp] theorem State.setRampx_r (s : State) (v : Byte) (i : Reg) : (s.setRampx v).r i = s.r i := rfl
@[simp] theorem State.setRampy_r (s : State) (v : Byte) (i : Reg) : (s.setRampy v).r i = s.r i := rfl
@[simp] theorem State.setRampz_r (s : State) (v : Byte) (i : Reg) : (s.setRampz v).r i = s.r i := rfl
@[simp] theorem State.setRampd_r (s : State) (v : Byte) (i : Reg) : (s.setRampd v).r i = s.r i := rfl
@[simp] theorem State.setEind_r (s : State) (v : Byte) (i : Reg) : (s.setEind v).r i = s.r i := rfl

@[simp] theorem State.setPc_pair (s : State) (n : Nat) (i : Reg) : (s.setPc n).pair i = s.pair i := rfl
@[simp] theorem State.advance_pair (s : State) (n : Nat) (i : Reg) : (s.advance n).pair i = s.pair i := rfl
@[simp] theorem State.setSreg_pair (s : State) (v : Byte) (i : Reg) : (s.setSreg v).pair i = s.pair i := rfl
@[simp] theorem State.storeSreg_pair (s : State) (v : Byte) (i : Reg) : (s.storeSreg v).pair i = s.pair i := rfl
@[simp] theorem State.setSp_pair (s : State) (n : Nat) (i : Reg) : (s.setSp n).pair i = s.pair i := rfl
@[simp] theorem State.event_pair (s : State) (e : IoEvent) (i : Reg) : (s.event e).pair i = s.pair i := rfl
@[simp] theorem State.ramWrite_pair (s : State) (a : Nat) (v : Byte) (i : Reg) : (s.ramWrite a v).pair i = s.pair i := rfl
@[simp] theorem State.irqReturn_pair (s : State) (i : Reg) : (s.irqReturn).pair i = s.pair i := rfl
@[simp] theorem State.takeEnv_pair (s : State) (i : Reg) : (s.takeEnv).pair i = s.pair i := rfl
@[simp] theorem State.setRampx_pair (s : State) (v : Byte) (i : Reg) : (s.setRampx v).pair i = s.pair i := rfl
@[simp] theorem State.setRampy_pair (s : State) (v : Byte) (i : Reg) : (s.setRampy v).pair i = s.pair i := rfl
@[simp] theorem State.setRampz_pair (s : State) (v : Byte) (i : Reg) : (s.setRampz v).pair i = s.pair i := rfl
@[simp] theorem State.setRampd_pair (s : State) (v : Byte) (i : Reg) : (s.setRampd v).pair i = s.pair i := rfl
@[simp] theorem State.setEind_pair (s : State) (v : Byte) (i : Reg) : (s.setEind v).pair i = s.pair i := rfl

/-! ### andThen -/

@[simp] theorem andThen_next {α β : Type} (a : α) (k : α → Res β) : andThen (.next a) k = k a := rfl

@[simp] theorem andThen_fault {α β : Type} (f : Fault) (k : α → Res β) : andThen (.fault f) k = .fault f := rfl

@[simp] theorem andThen_refused {α β : Type} (r : Refusal) (k : α → Res β) : andThen (.refused r) k = .refused r := rfl

/-- What a sequence that answers did. -/
theorem andThen_eq_next {α β : Type} {o : Res α} {k : α → Res β} {b : β} :
    andThen o k = .next b ↔ ∃ a, o = .next a ∧ k a = .next b := by
  cases o <;> simp [andThen]

end Sys2Proof.Machine
end

