-- ==== Sys2Proof/Laws/Memory.lean ====
section
/-! SUPPORT. Memory: every operation keeps the canonical form, and a read after a write. -/

namespace Sys2Proof.Machine

/-! ### The canonical form as a rising list of addresses -/

theorem Memory.wf_iff (m : Memory) : Memory.wf m = true ↔ m.Pairwise fun c d => c.1 < d.1 := by
  rw [← List.isChain_iff_pairwise]
  induction m with
  | nil => simp [Memory.wf]
  | cons c m ih =>
    cases m with
    | nil => simp [Memory.wf]
    | cons d m => simp [Memory.wf, ih]

/-! ### insert -/

theorem Memory.mem_insert (a : Nat) (v : Byte) (m : Memory) (c : Host.Cell) :
    c ∈ Memory.insert a v m → c = (a, v) ∨ c ∈ m := by
  induction m with
  | nil => simp [Memory.insert]
  | cons d m ih =>
    rw [Memory.insert]
    split
    · simp
    · split
      · simp; tauto
      · simp only [List.mem_cons]; tauto

theorem Memory.wf_insert (a : Nat) (v : Byte) (m : Memory) (h : Memory.wf m = true) :
    Memory.wf (Memory.insert a v m) = true := by
  rw [Memory.wf_iff] at *
  induction m with
  | nil => simp [Memory.insert]
  | cons d m ih =>
    rw [List.pairwise_cons] at h
    rw [Memory.insert]
    split
    · rename_i hlt
      refine List.pairwise_cons.2 ⟨?_, List.pairwise_cons.2 h⟩
      intro c hc
      rcases List.mem_cons.1 hc with rfl | hc
      · exact hlt
      · exact hlt.trans (h.1 c hc)
    · split
      · rename_i _ heq
        exact List.pairwise_cons.2 ⟨fun c hc => heq ▸ h.1 c hc, h.2⟩
      · refine List.pairwise_cons.2 ⟨?_, ih h.2⟩
        intro c hc
        rcases Memory.mem_insert a v m c hc with rfl | hc
        · show d.1 < a; omega
        · exact h.1 c hc

theorem Memory.lookup_insert (a b : Nat) (v : Byte) (m : Memory) :
    Memory.lookup b (Memory.insert a v m) = if a = b then some v else Memory.lookup b m := by
  induction m with
  | nil => simp [Memory.insert, Memory.lookup]
  | cons d m ih =>
    rw [Memory.insert]
    by_cases hab : a = b
    · subst hab
      split
      · simp [Memory.lookup]
      · split
        · simp [Memory.lookup]
        · rw [Memory.lookup, if_neg (by omega), ih, if_pos rfl, if_pos rfl]
    · rw [if_neg hab]
      split
      · simp [Memory.lookup, hab]
      · split
        · rename_i _ heq
          simp [Memory.lookup, hab, ← heq]
        · simp [Memory.lookup, ih, hab]

/-! ### erase -/

theorem Memory.erase_sublist (a : Nat) (m : Memory) : (Memory.erase a m).Sublist m := by
  induction m with
  | nil => simp [Memory.erase]
  | cons d m ih =>
    rw [Memory.erase]
    split
    · exact List.sublist_cons_self d m
    · exact ih.cons_cons d

theorem Memory.wf_erase (a : Nat) (m : Memory) (h : Memory.wf m = true) : Memory.wf (Memory.erase a m) = true := by
  rw [Memory.wf_iff] at *
  exact h.sublist (Memory.erase_sublist a m)

theorem Memory.lookup_none (a : Nat) (m : Memory) (h : ∀ c ∈ m, c.1 ≠ a) : Memory.lookup a m = none := by
  induction m with
  | nil => rfl
  | cons d m ih =>
    rw [Memory.lookup, if_neg (h d (by simp)), ih fun c hc => h c (List.mem_cons_of_mem d hc)]

theorem Memory.lookup_erase (a b : Nat) (m : Memory) (h : Memory.wf m = true) :
    Memory.lookup b (Memory.erase a m) = if a = b then none else Memory.lookup b m := by
  rw [Memory.wf_iff] at h
  induction m with
  | nil => simp [Memory.erase, Memory.lookup]
  | cons d m ih =>
    rw [List.pairwise_cons] at h
    rw [Memory.erase]
    by_cases hda : d.1 = a
    · rw [if_pos hda]
      by_cases hab : a = b
      · rw [if_pos hab]
        exact Memory.lookup_none b m fun c hc => by have := h.1 c hc; omega
      · rw [if_neg hab, Memory.lookup, if_neg (by omega)]
    · rw [if_neg hda, Memory.lookup, Memory.lookup, ih h.2]
      by_cases hab : a = b
      · simp [hab, show d.1 ≠ b by omega]
      · simp [hab]

/-! ### Program space -/

theorem Memory.flashWf_setFlashByte (b : Nat) (v : Byte) (m : Memory) (h : Memory.flashWf m = true) :
    Memory.flashWf (m.setFlashByte b v) = true := by
  simp only [Memory.flashWf, Bool.and_eq_true, List.all_eq_true, bne_iff_ne] at *
  rw [Memory.setFlashByte]
  split
  · exact ⟨Memory.wf_erase b m h.1, fun c hc => h.2 c ((Memory.erase_sublist b m).subset hc)⟩
  · rename_i hv
    refine ⟨Memory.wf_insert b v m h.1, fun c hc => ?_⟩
    rcases Memory.mem_insert b v m c hc with rfl | hc
    · exact hv
    · exact h.2 c hc

theorem Memory.flashByte_setFlashByte (a b : Nat) (v : Byte) (m : Memory) (h : Memory.flashWf m = true) :
    (m.setFlashByte a v).flashByte b = if a = b then v else m.flashByte b := by
  have hw : Memory.wf m = true := by simp only [Memory.flashWf, Bool.and_eq_true] at h; exact h.1
  rw [Memory.setFlashByte, Memory.flashByte, Memory.flashByte]
  split
  · rename_i hv
    rw [Memory.lookup_erase a b m hw]
    split <;> simp [hv]
  · rw [Memory.lookup_insert]
    split <;> simp

theorem Memory.flashWf_setFlashWord (w : Nat) (v : Word) (m : Memory) (h : Memory.flashWf m = true) :
    Memory.flashWf (m.setFlashWord w v) = true :=
  Memory.flashWf_setFlashByte _ _ _ (Memory.flashWf_setFlashByte _ _ _ h)

theorem Memory.flashByte_setFlashWord (w b : Nat) (v : Word) (m : Memory) (h : Memory.flashWf m = true) :
    (m.setFlashWord w v).flashByte b =
      if 2 * w = b then v.extractLsb' 0 8 else if 2 * w + 1 = b then v.extractLsb' 8 8 else m.flashByte b := by
  rw [Memory.setFlashWord, Memory.flashByte_setFlashByte _ _ _ _ (Memory.flashWf_setFlashByte _ _ _ h),
    Memory.flashByte_setFlashByte _ _ _ _ h]
  by_cases h0 : 2 * w = b
  · rw [if_neg (by omega), if_pos h0, if_pos h0]
  · simp only [h0, if_false]

theorem Memory.flashWord_setFlashWord (w x : Nat) (v : Word) (m : Memory) (h : Memory.flashWf m = true) :
    (m.setFlashWord w v).flashWord x = if w = x then v else m.flashWord x := by
  rw [Memory.flashWord, Memory.flashByte_setFlashWord _ _ _ _ h, Memory.flashByte_setFlashWord _ _ _ _ h]
  by_cases hx : w = x
  · subst hx
    rw [if_neg (by omega), if_pos rfl, if_pos rfl, if_pos rfl]
    ext j hj
    simp only [BitVec.getElem_append, BitVec.getElem_extractLsb']
    split
    · simp [hj]
    · rw [show 8 + (j - 8) = j by omega]; exact BitVec.getLsbD_eq_getElem hj
  · rw [if_neg (by omega), if_neg (by omega), if_neg (by omega), if_neg (by omega), if_neg hx, Memory.flashWord]

theorem Memory.mem_setFlashByte (b : Nat) (v : Byte) (m : Memory) (c : Host.Cell) (h : c ∈ m.setFlashByte b v) :
    c = (b, v) ∨ c ∈ m := by
  rw [Memory.setFlashByte] at h
  split at h
  · exact .inr ((Memory.erase_sublist b m).subset h)
  · exact Memory.mem_insert b v m c h

theorem Memory.mem_setFlashWord (w : Nat) (v : Word) (m : Memory) (c : Host.Cell) (h : c ∈ m.setFlashWord w v) :
    c.1 / 2 = w ∨ c ∈ m := by
  rcases Memory.mem_setFlashByte _ _ _ _ h with rfl | h
  · left; show (2 * w + 1) / 2 = w; omega
  · rcases Memory.mem_setFlashByte _ _ _ _ h with rfl | h
    · left; show 2 * w / 2 = w; omega
    · exact .inr h

/-! ### Reset -/

theorem reset_data_wf : Memory.wf State.reset.data = true := rfl

theorem reset_prog_wf : Memory.flashWf State.reset.prog = true := rfl

end Sys2Proof.Machine
end

