-- ==== Sys2Proof/Laws/Ops.lean ====
section
/-! SUPPORT. For each shared operation, once, everything it can do; provers cite these instead of unfolding. -/

namespace Sys2Proof.Machine

/-! ### I/O space -/

/-- The value and the state of an I/O read: a CPU register and the same state, or the oracle's answer, recorded. -/
theorem State.ioRead_cases (s : State) (a : Nat) :
    (s.ioRead a).2 = s ∨ s.ioRead a = (Config.ioAnswer s.hist (.io a), s.event (.read (.io a))) := by
  unfold State.ioRead
  repeat' split
  all_goals first | exact .inl rfl | exact .inr rfl

/-- What an I/O write can do. -/
theorem State.ioWrite_cases (s : State) (a : Nat) (v : Byte) :
    s.ioWrite a v = s.storeSreg v ∨
    (∃ x : BitVec 16, s.ioWrite a v = s.setSp x.toNat) ∨
    s.ioWrite a v = s.setRampd v ∨ s.ioWrite a v = s.setRampx v ∨ s.ioWrite a v = s.setRampy v ∨
    s.ioWrite a v = s.setRampz v ∨ s.ioWrite a v = s.setEind v ∨
    s.ioWrite a v = s.event (.write (.io a) v) := by
  unfold State.ioWrite State.oracleWrite
  repeat' split
  all_goals first
    | exact .inl rfl
    | exact .inr (.inl ⟨_, rfl⟩)
    | simp

/-- The CPU registers in I/O space, spelled out. -/
theorem Config.mem_cpuIo (c : Config) (a : Nat) :
    a ∈ Config.cpuIo c ↔ a = c.sregIo ∨ a = c.splIo ∨ a = c.sphIo ∨ (a = c.rampdIo ∧ c.hasRampd = true) ∨
      (a = c.rampxIo ∧ c.hasRampx = true) ∨ (a = c.rampyIo ∧ c.hasRampy = true) ∨
      (a = c.rampzIo ∧ c.hasRampz = true) ∨ (a = c.eindIo ∧ c.hasEind = true) := by
  simp only [Config.cpuIo, List.mem_append, List.mem_cons, List.not_mem_nil, or_false, List.mem_ite_nil_right, and_comm,
    or_assoc]

/-- A read that the oracle answers. -/
theorem State.ioRead_oracle {s : State} {a : Nat} (h : a ∉ Config.cpuIo s.cfg) :
    s.ioRead a = (Config.ioAnswer s.hist (.io a), s.event (.read (.io a))) := by
  simp only [Config.mem_cpuIo, not_or] at h
  obtain ⟨h1, h2, h3, h4, h5, h6, h7, h8⟩ := h
  simp only [State.ioRead, h1, h2, h3, h4, h5, h6, h7, h8, if_false, State.oracleRead]

/-- A read of a CPU register changes nothing. -/
theorem State.ioRead_cpu {s : State} {a : Nat} (h : a ∈ Config.cpuIo s.cfg) : (s.ioRead a).2 = s := by
  rw [Config.mem_cpuIo] at h
  unfold State.ioRead
  split_ifs with h1 h2 h3 h4 h5 h6 h7 h8
  all_goals first | rfl | (exfalso; revert h; simp only [h1, h2, h3, h4, h5, h6, h7, h8, or_false, imp_false,
    not_false_eq_true])

/-- A write that the oracle records. -/
theorem State.ioWrite_oracle {s : State} {a : Nat} (v : Byte) (h : a ∉ Config.cpuIo s.cfg) :
    s.ioWrite a v = s.event (.write (.io a) v) := by
  simp only [Config.mem_cpuIo, not_or] at h
  obtain ⟨h1, h2, h3, h4, h5, h6, h7, h8⟩ := h
  simp only [State.ioWrite, h1, h2, h3, h4, h5, h6, h7, h8, if_false, State.oracleWrite]

/-- The history after a read, whoever answered. -/
theorem State.ioRead_hist (s : State) (a : Nat) : (s.ioRead a).2.hist = s.histAfterRead a := by
  unfold State.histAfterRead
  split
  · rename_i h; rw [State.ioRead_cpu h]
  · rename_i h; rw [State.ioRead_oracle h]; rfl

/-- An I/O read keeps the PC and the configuration. -/
theorem State.ioRead_pc (s : State) (a : Nat) : (s.ioRead a).2.pc = s.pc ∧ (s.ioRead a).2.cfg = s.cfg := by
  rcases State.ioRead_cases s a with e | e <;> rw [e] <;> exact ⟨rfl, rfl⟩

/-- An I/O write keeps the PC and the configuration. -/
theorem State.ioWrite_pc (s : State) (a : Nat) (v : Byte) :
    (s.ioWrite a v).pc = s.pc ∧ (s.ioWrite a v).cfg = s.cfg := by
  rcases State.ioWrite_cases s a v with e | ⟨x, e⟩ | e | e | e | e | e | e <;> rw [e] <;> exact ⟨rfl, rfl⟩

/-! ### Data space -/

/-- What a read of data space can do, if it answers. -/
theorem State.memRead_cases {s t : State} {a : Nat} {v : Byte} (h : s.memRead a = .next (v, t)) :
    t = s ∨ (∃ e, t = s.event e) ∨ (dataLoc s.cfg a = .ram ∧ t = { s with draws := s.draws + 1 }) := by
  unfold State.memRead at h
  split at h
  · rename_i hr
    unfold State.ramRead at h
    split at h <;> cases h
    · exact .inl rfl
    · exact .inr (.inr ⟨hr, rfl⟩)
  · cases h; exact .inl rfl
  · rename_i p _
    rcases State.ioRead_cases s p with h1 | h1
    · left; rw [← h1, Host.Outcome.next.inj h]
    · right; left
      have h2 := Host.Outcome.next.inj h
      rw [h1] at h2
      exact ⟨_, (congrArg Prod.snd h2).symm⟩
  · rw [andThen_eq_next] at h; obtain ⟨_, _, h⟩ := h; cases h; exact .inl rfl
  · cases h; exact .inr (.inl ⟨_, rfl⟩)
  · cases h

/-- What a write of data space can do, if it answers. -/
theorem State.memWrite_cases {s t : State} {a : Nat} {v : Byte} (h : s.memWrite a v = .next t) :
    (dataLoc s.cfg a = .ram ∧ t = s.ramWrite a v) ∨
    (∃ i, dataLoc s.cfg a = .reg i ∧ t = s.setR i v) ∨
    (∃ p, dataLoc s.cfg a = .io p ∧ t = s.ioWrite p v) ∨
    (dataLoc s.cfg a = .other ∧ t = s.event (.write (.other a) v)) := by
  unfold State.memWrite at h
  split at h <;> rename_i hr <;> cases h
  · exact .inl ⟨hr, rfl⟩
  · exact .inr (.inl ⟨_, hr, rfl⟩)
  · exact .inr (.inr (.inl ⟨_, hr, rfl⟩))
  · exact .inr (.inr (.inr ⟨hr, rfl⟩))

/-- A read of a RAM byte that has been written. -/
theorem State.memRead_ram {s : State} {a : Nat} {v : Byte} (h : dataLoc s.cfg a = .ram)
    (hv : s.data.lookup a = some v) : s.memRead a = .next (v, s) := by
  have hv' : Memory.lookup a s.data = some v := hv
  simp [State.memRead, h, State.ramRead, hv']

/-- A write of RAM. -/
theorem State.memWrite_ram {s : State} {a : Nat} (v : Byte) (h : dataLoc s.cfg a = .ram) :
    s.memWrite a v = .next (s.ramWrite a v) := by
  simp [State.memWrite, h]

/-! ### The stack -/

/-- What a push can do, if it answers. -/
theorem State.push_cases {s t : State} {v : Byte} (h : s.push v = .next t) :
    ∃ u, s.memWrite s.sp.toNat v = .next u ∧ t = u.setSp (u.sp - 1#16).toNat := by
  rw [State.push, andThen_eq_next] at h
  obtain ⟨u, hu, h⟩ := h
  cases h
  exact ⟨u, hu, rfl⟩

/-- A push into RAM. -/
theorem State.push_ram {s : State} (v : Byte) (h : dataLoc s.cfg s.sp.toNat = .ram) :
    s.push v = .next ((s.ramWrite s.sp.toNat v).setSp (s.sp - 1#16).toNat) := by
  rw [State.push, State.memWrite_ram v h]; rfl

/-- A pop of a RAM byte that has been written. -/
theorem State.pop_ram {s : State} {v : Byte} {a : Nat} (ha : (BitVec.ofNat 16 ((s.sp + 1#16).toNat % 2 ^ s.cfg.spBits)).toNat = a)
    (h : dataLoc s.cfg a = .ram) (hv : s.data.lookup a = some v) :
    s.pop = .next (v, s.setSp (s.sp + 1#16).toNat) := by
  rw [State.pop]
  refine State.memRead_ram ?_ ?_ <;> rw [State.setSp_sp, ha]
  · exact h
  · exact hv

/-! ### The skip -/

/-- What a skip can do, if it answers: one, two or three words on, by the condition and the length of the next word. -/
theorem State.skipIf_cases {s t : State} {c : Bool} (h : s.skipIf c = .next t) :
    (c = false ∧ t = s.advance 1) ∨
    (c = true ∧ ∃ w, s.progWord ((s.pc.toNat + 1) % 2 ^ s.cfg.pcBits) = .next w ∧
      t = s.advance (1 + instrLen s.cfg.core w)) := by
  unfold State.skipIf at h
  cases c
  · left
    refine ⟨rfl, ?_⟩
    split at h <;> simpa using h.symm
  · right
    refine ⟨rfl, ?_⟩
    split at h
    · rename_i w hw
      exact ⟨w, hw, by simpa using h.symm⟩
    · cases h
    · cases h

/-! ### The interrupt agent -/

/-- What an interrupt's entry can do, if it answers. -/
theorem State.enterIrq_cases {s t : State} {n : Nat} {level : IrqLevel} (h : s.enterIrq n level = .next t) :
    ∃ u, s.pushPc s.pc = .next u ∧
      t = ({ u with
        inhibit := s.inhibit
        sreg := if s.cfg.irqClearsI then putBit u.sreg 7#3 false else u.sreg
        inService := level :: u.inService } : State).setPc (vectorAddr s.cfg n) := by
  rw [State.enterIrq, andThen_eq_next] at h
  obtain ⟨u, hu, h⟩ := h
  cases h
  exact ⟨u, hu, rfl⟩

/-! ### The step -/

/-- What a step that answers does at its boundary. -/
theorem step_cases {s t : State} (h : step s = .next t) :
    (∃ u, s.boundary = .reset u ∧ t = u.charge .unstated) ∨
    (∃ n level u v, s.boundary = .interrupt n level u ∧ u.enterIrq n level = .next v ∧ t = v.charge .unstated) ∨
    (∃ u, s.boundary = .idle u ∧ t = u.charge .unstated) ∨
    (∃ u i v, s.boundary = .run u ∧ u.fetch = .next i ∧ exec i u = .next v ∧ t = v.charge (instrCost i u v)) := by
  unfold step at h
  split at h <;> rename_i hb
  · cases h
  · cases h; exact .inl ⟨_, hb, rfl⟩
  · rw [andThen_eq_next] at h
    obtain ⟨v, hv, h⟩ := h
    cases h
    exact .inr (.inl ⟨_, _, _, v, hb, hv, rfl⟩)
  · cases h; exact .inr (.inr (.inl ⟨_, hb, rfl⟩))
  · rw [andThen_eq_next] at h
    obtain ⟨i, hi, h⟩ := h
    rw [andThen_eq_next] at h
    obtain ⟨v, hv, h⟩ := h
    cases h
    exact .inr (.inr (.inr ⟨_, i, v, hb, hi, hv, rfl⟩))

end Sys2Proof.Machine
end

