-- ==== Sys2Proof/Laws/Flags.lean ====
section
/-! SUPPORT. The flag computations as arithmetic, and the bits of SREG as the writers leave them. -/

namespace Sys2Proof.Machine

/-! ### Top bits and signed values as numbers -/

theorem byte_bit7 (x : BitVec 8) : x.getLsbD 7 = decide (128 ≤ x.toNat) := by
  revert x; decide

theorem byte_bit3 (x : BitVec 8) : x.getLsbD 3 = decide (8 ≤ x.toNat % 16) := by
  revert x; decide

theorem byte_msb (x : BitVec 8) : x.msb = decide (128 ≤ x.toNat) := by
  revert x; decide

theorem byte_toInt (x : BitVec 8) : x.toInt = if x.toNat < 128 then (x.toNat : Int) else x.toNat - 256 := by
  revert x; decide

theorem word_bit15 (x : BitVec 16) : x.getLsbD 15 = decide (32768 ≤ x.toNat) := by
  rw [← BitVec.msb_eq_getLsbD_last, BitVec.msb_eq_decide]

theorem word_msb (x : BitVec 16) : x.msb = decide (32768 ≤ x.toNat) := by
  rw [BitVec.msb_eq_decide]

theorem word_toInt (x : BitVec 16) : x.toInt = if x.toNat < 32768 then (x.toNat : Int) else x.toNat - 65536 := by
  rw [BitVec.toInt_eq_toNat_cond]; simp; split <;> split <;> omega

/-! ### The flags of each computation -/

/-- AddFlags8 as arithmetic (40_arithmetic_logic R140). -/
theorem addFlags8_spec (a b : Byte) (c : Bool) :
    let f := addFlags8 a b c
    let x : Int := a.toInt + b.toInt + (c.toNat : Int)
    f.res.toNat = (a.toNat + b.toNat + c.toNat) % 256 ∧ f.h = decide (16 ≤ a.toNat % 16 + b.toNat % 16 + c.toNat) ∧
    f.v = decide (x < -128 ∨ 127 < x) ∧ f.n = f.res.msb ∧ f.z = decide ((a.toNat + b.toNat + c.toNat) % 256 = 0) ∧
    f.c = decide (256 ≤ a.toNat + b.toNat + c.toNat) := by
  intro f x
  have hr : f.res.toNat = (a.toNat + b.toNat + c.toNat) % 256 := by
    cases c <;> simp [f, addFlags8, carryIn, BitVec.toNat_add]
  have ha := a.isLt
  have hb := b.isLt
  have hc : c.toNat ≤ 1 := by cases c <;> simp
  refine ⟨hr, ?_, ?_, ?_, ?_, ?_⟩
  · show ((a.getLsbD 3 && b.getLsbD 3) || (b.getLsbD 3 && !f.res.getLsbD 3) || (!f.res.getLsbD 3 && a.getLsbD 3)) = _
    rw [byte_bit3, byte_bit3, byte_bit3, hr, Bool.eq_iff_iff]; simp; omega
  · show ((a.getLsbD 7 && b.getLsbD 7 && !f.res.getLsbD 7) || (!a.getLsbD 7 && !b.getLsbD 7 && f.res.getLsbD 7)) = _
    rw [byte_bit7, byte_bit7, byte_bit7, hr, Bool.eq_iff_iff]; simp only [x, byte_toInt]; simp; split <;> split <;> omega
  · show f.res.getLsbD 7 = _
    rw [byte_bit7, byte_msb]
  · show (f.res == 0#8) = _
    rw [Bool.eq_iff_iff]; simp only [beq_iff_eq, decide_eq_true_eq, ← hr, BitVec.toNat_eq]; simp
  · show ((a.getLsbD 7 && b.getLsbD 7) || (b.getLsbD 7 && !f.res.getLsbD 7) || (!f.res.getLsbD 7 && a.getLsbD 7)) = _
    rw [byte_bit7, byte_bit7, byte_bit7, hr, Bool.eq_iff_iff]; simp; omega

/-- SubFlags8 as arithmetic (40_arithmetic_logic R141). -/
theorem subFlags8_spec (a b : Byte) (c k z : Bool) :
    let f := subFlags8 a b c k z
    let x : Int := a.toInt - b.toInt - (c.toNat : Int)
    f.res.toNat = (a.toNat + 512 - b.toNat - c.toNat) % 256 ∧ f.h = decide (a.toNat % 16 < b.toNat % 16 + c.toNat) ∧
    f.v = decide (x < -128 ∨ 127 < x) ∧ f.n = f.res.msb ∧
    f.z = (decide ((a.toNat + 512 - b.toNat - c.toNat) % 256 = 0) && (!k || z)) ∧
    f.c = decide (a.toNat < b.toNat + c.toNat) := by
  intro f x
  have ha := a.isLt
  have hb := b.isLt
  have hc : c.toNat ≤ 1 := by cases c <;> simp
  have hr : f.res.toNat = (a.toNat + 512 - b.toNat - c.toNat) % 256 := by
    cases c <;> simp [f, subFlags8, carryIn, BitVec.toNat_sub] <;> omega
  refine ⟨hr, ?_, ?_, ?_, ?_, ?_⟩
  · show ((!a.getLsbD 3 && b.getLsbD 3) || (b.getLsbD 3 && f.res.getLsbD 3) || (f.res.getLsbD 3 && !a.getLsbD 3)) = _
    rw [byte_bit3, byte_bit3, byte_bit3, hr, Bool.eq_iff_iff]; simp; omega
  · show ((a.getLsbD 7 && !b.getLsbD 7 && !f.res.getLsbD 7) || (!a.getLsbD 7 && b.getLsbD 7 && f.res.getLsbD 7)) = _
    rw [byte_bit7, byte_bit7, byte_bit7, hr, Bool.eq_iff_iff]; simp only [x, byte_toInt]; simp; split <;> split <;> omega
  · show f.res.getLsbD 7 = _
    rw [byte_bit7, byte_msb]
  · have : (f.res == 0#8) = decide ((a.toNat + 512 - b.toNat - c.toNat) % 256 = 0) := by
      rw [Bool.eq_iff_iff]; simp only [beq_iff_eq, decide_eq_true_eq, ← hr, BitVec.toNat_eq]; simp
    show (if k then (f.res == 0#8) && z else (f.res == 0#8)) = _
    rw [this]; cases k <;> simp
  · show ((!a.getLsbD 7 && b.getLsbD 7) || (b.getLsbD 7 && f.res.getLsbD 7) || (f.res.getLsbD 7 && !a.getLsbD 7)) = _
    rw [byte_bit7, byte_bit7, byte_bit7, hr, Bool.eq_iff_iff]; simp; omega

/-- ADIW as arithmetic (R147). -/
theorem adiwFlags_spec (a : BitVec 16) (k : BitVec 6) :
    let f := adiwFlags a k
    let x : Int := a.toInt + k.toNat
    f.res.toNat = (a.toNat + k.toNat) % 65536 ∧ f.v = decide (x < -32768 ∨ 32767 < x) ∧
    f.n = f.res.msb ∧ f.z = decide (f.res = 0#16) ∧
    f.c = decide ((a.toNat : Int) + k.toNat < 0 ∨ 65535 < (a.toNat : Int) + k.toNat) := by
  intro f x
  have ha := a.isLt
  have hk := k.isLt
  have hr : f.res.toNat = (a.toNat + k.toNat) % 65536 := by
    simp [f, adiwFlags, BitVec.toNat_add]
  refine ⟨hr, ?_, ?_, ?_, ?_⟩
  · show (!a.getLsbD 15 && f.res.getLsbD 15) = _
    rw [word_bit15, word_bit15, hr, Bool.eq_iff_iff]; simp only [x, word_toInt]; simp; split <;> omega
  · show f.res.getLsbD 15 = _
    rw [word_bit15, word_msb]
  · show (f.res == 0#16) = _
    rw [Bool.eq_iff_iff]; simp
  · show (!f.res.getLsbD 15 && a.getLsbD 15) = _
    rw [word_bit15, word_bit15, hr, Bool.eq_iff_iff]; simp; omega

/-- SBIW as arithmetic (R152). -/
theorem sbiwFlags_spec (a : BitVec 16) (k : BitVec 6) :
    let f := sbiwFlags a k
    let x : Int := a.toInt + -(k.toNat : Int)
    f.res.toNat = (a.toNat + 65536 - k.toNat) % 65536 ∧ f.v = decide (x < -32768 ∨ 32767 < x) ∧
    f.n = f.res.msb ∧ f.z = decide (f.res = 0#16) ∧
    f.c = decide ((a.toNat : Int) + -(k.toNat : Int) < 0 ∨ 65535 < (a.toNat : Int) + -(k.toNat : Int)) := by
  intro f x
  have ha := a.isLt
  have hk := k.isLt
  have hr : f.res.toNat = (a.toNat + 65536 - k.toNat) % 65536 := by
    simp [f, sbiwFlags, BitVec.toNat_sub]; omega
  refine ⟨hr, ?_, ?_, ?_, ?_⟩
  · show (a.getLsbD 15 && !f.res.getLsbD 15) = _
    rw [word_bit15, word_bit15, hr, Bool.eq_iff_iff]; simp only [x, word_toInt]; simp; split <;> omega
  · show f.res.getLsbD 15 = _
    rw [word_bit15, word_msb]
  · show (f.res == 0#16) = _
    rw [Bool.eq_iff_iff]; simp
  · show (f.res.getLsbD 15 && !a.getLsbD 15) = _
    rw [word_bit15, word_bit15, hr, Bool.eq_iff_iff]; simp; omega

/-- COM as arithmetic (R158). -/
theorem comFlags_spec : ∀ x : Byte,
    (comFlags x).res.toNat = 255 - x.toNat ∧
    (comFlags x).v = false ∧
    (comFlags x).n = (comFlags x).res.msb ∧
    (comFlags x).z = decide (255 - x.toNat = 0) ∧
    (comFlags x).c = true := by decide

/-- NEG as arithmetic (R159). -/
theorem negFlags_spec : ∀ x : Byte,
    (negFlags x).res.toNat = (256 - x.toNat) % 256 ∧
    (negFlags x).h = decide (x.toNat % 16 ≠ 0) ∧
    (negFlags x).v = decide (x.toNat = 128) ∧
    (negFlags x).n = (negFlags x).res.msb ∧
    (negFlags x).z = decide ((256 - x.toNat) % 256 = 0) ∧
    (negFlags x).c = decide (x.toNat ≠ 0) := by decide

/-- INC as arithmetic (R162). -/
theorem incFlags_spec : ∀ x : Byte,
    (incFlags x).res.toNat = (x.toNat + 1) % 256 ∧
    (incFlags x).v = decide (x.toNat = 127) ∧
    (incFlags x).n = (incFlags x).res.msb ∧
    (incFlags x).z = decide ((x.toNat + 1) % 256 = 0) := by decide

/-- DEC as arithmetic (R163). -/
theorem decFlags_spec : ∀ x : Byte,
    (decFlags x).res.toNat = (x.toNat + 255) % 256 ∧
    (decFlags x).v = decide (x.toNat = 128) ∧
    (decFlags x).n = (decFlags x).res.msb ∧
    (decFlags x).z = decide ((x.toNat + 255) % 256 = 0) := by decide

/-- LSL as arithmetic (43_bit R340). -/
theorem lslFlags_spec : ∀ x : Byte,
    (lslFlags x).res.toNat = 2 * x.toNat % 256 ∧
    (lslFlags x).h = decide (8 ≤ x.toNat % 16) ∧
    (lslFlags x).v = (decide (128 ≤ 2 * x.toNat % 256) ^^ decide (128 ≤ x.toNat)) ∧
    (lslFlags x).n = decide (128 ≤ 2 * x.toNat % 256) ∧
    (lslFlags x).z = decide (2 * x.toNat % 256 = 0) ∧
    (lslFlags x).c = decide (128 ≤ x.toNat) := by decide

/-- ROL as arithmetic (43_bit R342). -/
theorem rolFlags_spec : ∀ (c : Bool) (x : Byte),
    (rolFlags x c).res.toNat = (2 * x.toNat + c.toNat) % 256 ∧
    (rolFlags x c).h = decide (8 ≤ x.toNat % 16) ∧
    (rolFlags x c).v = (decide (128 ≤ (2 * x.toNat + c.toNat) % 256) ^^ decide (128 ≤ x.toNat)) ∧
    (rolFlags x c).n = decide (128 ≤ (2 * x.toNat + c.toNat) % 256) ∧
    (rolFlags x c).z = decide ((2 * x.toNat + c.toNat) % 256 = 0) ∧
    (rolFlags x c).c = decide (128 ≤ x.toNat) := by decide

/-- LSR as arithmetic (43_bit R341). -/
theorem lsrFlags_spec : ∀ x : Byte,
    (lsrFlags x).res.toNat = x.toNat / 2 ∧
    (lsrFlags x).v = (decide (128 ≤ x.toNat / 2) ^^ decide (x.toNat % 2 = 1)) ∧
    (lsrFlags x).n = decide (128 ≤ x.toNat / 2) ∧
    (lsrFlags x).z = decide (x.toNat / 2 = 0) ∧
    (lsrFlags x).c = decide (x.toNat % 2 = 1) := by decide

/-- ROR as arithmetic (43_bit R343). -/
theorem rorFlags_spec : ∀ (c : Bool) (x : Byte),
    (rorFlags x c).res.toNat = x.toNat / 2 + 128 * c.toNat ∧
    (rorFlags x c).v = (decide (128 ≤ x.toNat / 2 + 128 * c.toNat) ^^ decide (x.toNat % 2 = 1)) ∧
    (rorFlags x c).n = decide (128 ≤ x.toNat / 2 + 128 * c.toNat) ∧
    (rorFlags x c).z = decide (x.toNat / 2 + 128 * c.toNat = 0) ∧
    (rorFlags x c).c = decide (x.toNat % 2 = 1) := by decide

/-- ASR as arithmetic (43_bit R344). -/
theorem asrFlags_spec : ∀ x : Byte,
    (asrFlags x).res.toNat = x.toNat / 2 + x.toNat / 128 * 128 ∧
    (asrFlags x).v = (decide (128 ≤ x.toNat / 2 + x.toNat / 128 * 128) ^^ decide (x.toNat % 2 = 1)) ∧
    (asrFlags x).n = decide (128 ≤ x.toNat / 2 + x.toNat / 128 * 128) ∧
    (asrFlags x).z = decide (x.toNat / 2 + x.toNat / 128 * 128 = 0) ∧
    (asrFlags x).c = decide (x.toNat % 2 = 1) := by decide

/-- A result is zero when all its bits are (40_arithmetic_logic R142). -/
theorem byte_eq_zero_iff_bits (x : Byte) : (x == 0#8) = decide (∀ j : Nat, j < 8 → x.getLsbD j = false) := by
  revert x; decide

/-- One bit of a byte set, the others as before. -/
theorem putBit_bit (v : Byte) (b : BitVec 3) (x : Bool) (j : Nat) (hj : j < 8) :
    (putBit v b x).getLsbD j = if j = b.toNat then x else v.getLsbD j := by
  have key : ∀ (b : BitVec 3) (j : Fin 8), (1#8 <<< b.toNat).getLsbD j.val = decide (j.val = b.toNat) := by decide
  have h := key b ⟨j, hj⟩
  unfold putBit
  cases x
  · simp only [Bool.false_eq_true, if_false, BitVec.getLsbD_and, BitVec.getLsbD_not, h, hj, decide_true, Bool.true_and]
    by_cases e : j = b.toNat <;> simp [e]
  · simp only [if_true, BitVec.getLsbD_or, h]
    by_cases e : j = b.toNat <;> simp [e]

/-! ### The bits of SREG -/

@[simp] theorem flagC_sregOf (i t h s v n z c : Bool) : flagC (sregOf i t h s v n z c) = c := by revert i t h s v n z c; decide

@[simp] theorem flagZ_sregOf (i t h s v n z c : Bool) : flagZ (sregOf i t h s v n z c) = z := by revert i t h s v n z c; decide

@[simp] theorem flagN_sregOf (i t h s v n z c : Bool) : flagN (sregOf i t h s v n z c) = n := by revert i t h s v n z c; decide

@[simp] theorem flagV_sregOf (i t h s v n z c : Bool) : flagV (sregOf i t h s v n z c) = v := by revert i t h s v n z c; decide

@[simp] theorem flagS_sregOf (i t h s v n z c : Bool) : flagS (sregOf i t h s v n z c) = s := by revert i t h s v n z c; decide

@[simp] theorem flagH_sregOf (i t h s v n z c : Bool) : flagH (sregOf i t h s v n z c) = h := by revert i t h s v n z c; decide

@[simp] theorem flagT_sregOf (i t h s v n z c : Bool) : flagT (sregOf i t h s v n z c) = t := by revert i t h s v n z c; decide

@[simp] theorem flagI_sregOf (i t h s v n z c : Bool) : flagI (sregOf i t h s v n z c) = i := by revert i t h s v n z c; decide

end Sys2Proof.Machine
end

