-- ==== Sys2Proof/Laws/Frame.lean ====
section
/-! SUPPORT. Frames: how each operation extends what has changed since a state `s` (State.OnlyChanges). A frame of an
instruction is these, one after the other, from State.OnlyChanges.refl on. -/

namespace Sys2Proof.Machine

variable {s t u : State} {ps qs : List Part}

theorem State.OnlyChanges.refl (s : State) (ps : List Part) : s.OnlyChanges s ps := by
  constructor <;> intros <;> rfl

theorem State.OnlyChanges.mono (h : s.OnlyChanges t ps) (hq : ∀ p ∈ ps, p ∈ qs) : s.OnlyChanges t qs :=
  ⟨h.1, h.2, h.3, h.4, fun i hi => h.5 i fun hp => hi (hq _ hp), fun hi => h.6 fun hp => hi (hq _ hp),
    fun hi => h.7 fun hp => hi (hq _ hp), fun hi => h.8 fun hp => hi (hq _ hp), fun hi => h.9 fun hp => hi (hq _ hp),
    fun hi => h.10 fun hp => hi (hq _ hp), fun hi => h.11 fun hp => hi (hq _ hp), fun hi => h.12 fun hp => hi (hq _ hp),
    fun i hi => h.13 i fun hp => hi (hq _ hp), fun i hi => h.14 i fun hp => hi (hq _ hp),
    fun hi => h.15 fun hp => hi (hq _ hp), fun hi => h.16 fun hp => hi (hq _ hp), fun hi => h.17 fun hp => hi (hq _ hp),
    fun hi => h.18 fun hp => hi (hq _ hp), fun hi => h.19 fun hp => hi (hq _ hp), fun hi => h.20 fun hp => hi (hq _ hp),
    fun hi => h.21 fun hp => hi (hq _ hp)⟩

theorem State.OnlyChanges.trans (h : s.OnlyChanges t ps) (k : t.OnlyChanges u ps) : s.OnlyChanges u ps :=
  ⟨k.1.trans h.1, k.2.trans h.2, k.3.trans h.3, k.4.trans h.4, fun i hi => (k.5 i hi).trans (h.5 i hi),
    fun hi => (k.6 hi).trans (h.6 hi), fun hi => (k.7 hi).trans (h.7 hi), fun hi => (k.8 hi).trans (h.8 hi),
    fun hi => (k.9 hi).trans (h.9 hi), fun hi => (k.10 hi).trans (h.10 hi), fun hi => (k.11 hi).trans (h.11 hi),
    fun hi => (k.12 hi).trans (h.12 hi), fun i hi => (k.13 i hi).trans (h.13 i hi),
    fun i hi => (k.14 i hi).trans (h.14 i hi), fun hi => (k.15 hi).trans (h.15 hi), fun hi => (k.16 hi).trans (h.16 hi),
    fun hi => (k.17 hi).trans (h.17 hi), fun hi => (k.18 hi).trans (h.18 hi), fun hi => (k.19 hi).trans (h.19 hi),
    fun hi => (k.20 hi).trans (h.20 hi), fun hi => (k.21 hi).trans (h.21 hi)⟩

/-! ### Registers -/

theorem State.OnlyChanges.setR (h : s.OnlyChanges t ps) {i : Reg} {v : Byte} (hi : Part.reg i ∈ ps) :
    s.OnlyChanges (t.setR i v) ps := by
  refine h.trans ?_
  constructor <;> intros <;> try rfl
  rename_i j hj
  rw [State.setR_r, if_neg (show ¬i = j from fun e => hj (e ▸ hi))]

theorem State.OnlyChanges.setPair (h : s.OnlyChanges t ps) {i : Reg} {v : BitVec 16} (hi : Part.reg i ∈ ps)
    (hj : Part.reg (i + 1) ∈ ps) : s.OnlyChanges (t.setPair i v) ps := (h.setR hi).setR hj

theorem State.OnlyChanges.setPc (h : s.OnlyChanges t ps) {n : Nat} : s.OnlyChanges (t.setPc n) ps := by
  refine h.trans ?_
  constructor <;> intros <;> rfl

theorem State.OnlyChanges.advance (h : s.OnlyChanges t ps) {n : Nat} : s.OnlyChanges (t.advance n) ps := h.setPc

theorem State.OnlyChanges.setSreg (h : s.OnlyChanges t ps) {v : Byte} (hi : Part.sreg ∈ ps) :
    s.OnlyChanges (t.setSreg v) ps := by
  refine h.trans ?_
  constructor <;> intros <;> first | rfl | contradiction

theorem State.OnlyChanges.storeSreg (h : s.OnlyChanges t ps) {v : Byte} (hi : Part.sreg ∈ ps)
    (hj : Part.inhibit ∈ ps) : s.OnlyChanges (t.storeSreg v) ps := by
  refine h.trans ?_
  constructor <;> intros <;> first | rfl | contradiction

theorem State.OnlyChanges.setSp (h : s.OnlyChanges t ps) {n : Nat} (hi : Part.sp ∈ ps) :
    s.OnlyChanges (t.setSp n) ps := by
  refine h.trans ?_
  constructor <;> intros <;> first | rfl | contradiction

theorem State.OnlyChanges.setRampx (h : s.OnlyChanges t ps) {v : Byte} (hi : Part.rampx ∈ ps) :
    s.OnlyChanges (t.setRampx v) ps := by
  refine h.trans ?_
  constructor <;> intros <;> first | rfl | contradiction

theorem State.OnlyChanges.setRampy (h : s.OnlyChanges t ps) {v : Byte} (hi : Part.rampy ∈ ps) :
    s.OnlyChanges (t.setRampy v) ps := by
  refine h.trans ?_
  constructor <;> intros <;> first | rfl | contradiction

theorem State.OnlyChanges.setRampz (h : s.OnlyChanges t ps) {v : Byte} (hi : Part.rampz ∈ ps) :
    s.OnlyChanges (t.setRampz v) ps := by
  refine h.trans ?_
  constructor <;> intros <;> first | rfl | contradiction

theorem State.OnlyChanges.setRampd (h : s.OnlyChanges t ps) {v : Byte} (hi : Part.rampd ∈ ps) :
    s.OnlyChanges (t.setRampd v) ps := by
  refine h.trans ?_
  constructor <;> intros <;> first | rfl | contradiction

theorem State.OnlyChanges.setEind (h : s.OnlyChanges t ps) {v : Byte} (hi : Part.eind ∈ ps) :
    s.OnlyChanges (t.setEind v) ps := by
  refine h.trans ?_
  constructor <;> intros <;> first | rfl | contradiction

theorem State.OnlyChanges.irqReturn (h : s.OnlyChanges t ps) (hi : Part.inService ∈ ps) (hj : Part.inhibit ∈ ps) :
    s.OnlyChanges t.irqReturn ps := by
  refine h.trans ?_
  constructor <;> intros <;> first | rfl | contradiction

/-! ### Memory, the oracle and the free values -/

theorem State.OnlyChanges.event (h : s.OnlyChanges t ps) {e : IoEvent} (hi : Part.hist ∈ ps) :
    s.OnlyChanges (t.event e) ps := by
  refine h.trans ?_
  constructor <;> intros <;> first | rfl | contradiction

theorem State.OnlyChanges.ramWrite (h : s.OnlyChanges t ps) {a : Nat} {v : Byte} (hi : Part.ram a ∈ ps) :
    s.OnlyChanges (t.ramWrite a v) ps := by
  refine h.trans ?_
  constructor <;> intros <;> try rfl
  rename_i b hb
  show Memory.lookup b (Memory.insert a v t.data) = _
  rw [Memory.lookup_insert, if_neg (show ¬a = b from fun e => hb (e ▸ hi))]
  rfl

theorem State.OnlyChanges.ramRead (h : s.OnlyChanges t ps) {a : Nat} (hi : Part.draws ∈ ps) :
    s.OnlyChanges (t.ramRead a).2 ps := by
  refine h.trans ?_
  unfold State.ramRead
  split
  · exact .refl _ _
  · constructor <;> intros <;> first | rfl | contradiction

theorem State.OnlyChanges.ioRead (h : s.OnlyChanges t ps) {a : Nat} (hi : Part.hist ∈ ps) :
    s.OnlyChanges (t.ioRead a).2 ps := by
  rcases State.ioRead_cases t a with e | e
  · rw [e]; exact h
  · rw [e]; exact h.event hi

theorem State.OnlyChanges.memRead (h : s.OnlyChanges t ps) {a : Nat} {v : Byte} (ht : t.memRead a = .next (v, u))
    (hi : Part.hist ∈ ps) (hj : Part.draws ∈ ps) : s.OnlyChanges u ps := by
  rcases State.memRead_cases ht with rfl | ⟨e, rfl⟩ | ⟨_, rfl⟩
  · exact h
  · exact h.event hi
  · refine h.trans ?_
    constructor <;> intros <;> first | rfl | contradiction

theorem State.OnlyChanges.setProgWord (h : s.OnlyChanges t ps) {b : Nat} {v : Word} (hw : Memory.flashWf t.prog = true)
    (ht : t.setProgWord b v = .next u) (hi : Part.flash (2 * (b / 2)) ∈ ps) (hj : Part.flash (2 * (b / 2) + 1) ∈ ps) :
    s.OnlyChanges u ps := by
  refine h.trans ?_
  unfold State.setProgWord at ht
  split at ht <;> cases ht
  constructor <;> intros <;> try rfl
  rename_i c hc
  show Memory.flashByte (Memory.setFlashWord t.prog (b / 2) v) c = _
  rw [Memory.flashByte_setFlashWord _ _ _ _ hw, if_neg (show ¬2 * (b / 2) = c from fun e => hc (e ▸ hi)),
    if_neg (show ¬2 * (b / 2) + 1 = c from fun e => hc (e ▸ hj))]

/-- Beside what it does to program space, the device's SPM is one event of the history. -/
theorem State.spmDevice_onlyChanges (s : State) (a : Nat) (w : Word) :
    ({ s with prog := (s.spmDevice a w).prog } : State).OnlyChanges (s.spmDevice a w) [.hist] := by
  constructor <;> intros <;> first | rfl | (rename_i hi; exact absurd (List.mem_singleton.2 rfl) hi)

/-! ### Pointers and blocks -/

theorem State.OnlyChanges.setRamp (h : s.OnlyChanges t ps) {p : Ptr} {v : Byte}
    (hi : (match p with | .x => Part.rampx | .y => .rampy | .z => .rampz) ∈ ps) : s.OnlyChanges (t.setRamp p v) ps := by
  cases p
  · exact h.setRampx hi
  · exact h.setRampy hi
  · exact h.setRampz hi

theorem State.OnlyChanges.ptrSet (h : s.OnlyChanges t ps) {p : Ptr} {n : Nat}
    (hi : ∀ q ∈ p.parts t.cfg.ptrWidth, q ∈ ps) : s.OnlyChanges (t.ptrSet p n) ps := by
  unfold State.ptrSet
  split <;> rename_i e <;> simp only [Ptr.parts, e, List.mem_cons, List.not_mem_nil, or_false, forall_eq_or_imp,
    forall_eq] at hi
  · exact h.setR hi
  · exact h.setPair hi.1 hi.2
  · exact (h.setPair hi.1 hi.2.1).setRamp hi.2.2

theorem State.OnlyChanges.setElpmAddr (h : s.OnlyChanges t ps) {n : Nat} (hi : Part.reg 30 ∈ ps)
    (hj : Part.reg 31 ∈ ps) (hk : Part.rampz ∈ ps) : s.OnlyChanges (t.setElpmAddr n) ps :=
  (h.setPair hi hj).setRampz hk

theorem State.OnlyChanges.setBlock (h : s.OnlyChanges t ps) {b : BitVec 128} (hi : ∀ i ∈ lowRegs, Part.reg i ∈ ps) :
    s.OnlyChanges (t.setBlock b) ps := by
  unfold State.setBlock
  revert t hi
  generalize lowRegs = l
  induction l with
  | nil => intro t h _; exact h
  | cons i l ih =>
    intro t h hi
    exact ih (h.setR (hi i (List.mem_cons_self ..))) fun j hj => hi j (List.mem_cons_of_mem _ hj)

end Sys2Proof.Machine
end

