-- ==== Sys2Proof/Laws/Inv.lean ====
section
/-! SUPPORT. Each shared operation keeps the invariant State.Inv and the configuration. -/

namespace Sys2Proof.Machine

variable {s t : State}

/-- A number below a power of two up to 2^22 fits the PC's field. -/
theorem pc_fits {b n : Nat} (hb : b ≤ 22) : (BitVec.ofNat 22 (n % 2 ^ b)).toNat = n % 2 ^ b := by
  have h1 : n % 2 ^ b < 2 ^ b := Nat.mod_lt _ (Nat.two_pow_pos b)
  have h2 : 2 ^ b ≤ 2 ^ 22 := Nat.pow_le_pow_right (by decide) hb
  rw [BitVec.toNat_ofNat, Nat.mod_eq_of_lt (by omega)]

/-- The same for SP. -/
theorem sp_fits {b n : Nat} (hb : b ≤ 16) : (BitVec.ofNat 16 (n % 2 ^ b)).toNat = n % 2 ^ b := by
  have h1 : n % 2 ^ b < 2 ^ b := Nat.mod_lt _ (Nat.two_pow_pos b)
  have h2 : 2 ^ b ≤ 2 ^ 16 := Nat.pow_le_pow_right (by decide) hb
  rw [BitVec.toNat_ofNat, Nat.mod_eq_of_lt (by omega)]

theorem State.Inv.setR (h : s.Inv) (i : Reg) (v : Byte) : (s.setR i v).Inv :=
  ⟨h.1, h.2, h.3, h.4, h.5, h.6, h.7, h.8, h.9, h.10, h.11, h.12, h.13, h.14⟩

theorem State.Inv.setPair (h : s.Inv) (i : Reg) (v : BitVec 16) : (s.setPair i v).Inv := (h.setR _ _).setR _ _

theorem State.Inv.setPc (h : s.Inv) (n : Nat) : (s.setPc n).Inv :=
  ⟨h.1, by rw [State.setPc_pc, pc_fits h.1.1]; exact Nat.mod_lt _ (Nat.two_pow_pos _),
    h.3, h.4, h.5, h.6, h.7, h.8, h.9, h.10, h.11, h.12, h.13, h.14⟩

theorem State.Inv.advance (h : s.Inv) (n : Nat) : (s.advance n).Inv := h.setPc _

theorem State.Inv.setSreg (h : s.Inv) (v : Byte) : (s.setSreg v).Inv :=
  ⟨h.1, h.2, h.3, h.4, h.5, h.6, h.7, h.8, h.9, h.10, h.11, h.12, h.13, h.14⟩

theorem State.Inv.storeSreg (h : s.Inv) (v : Byte) : (s.storeSreg v).Inv :=
  ⟨h.1, h.2, h.3, h.4, h.5, h.6, h.7, h.8, h.9, h.10, h.11, h.12, h.13, h.14⟩

theorem State.Inv.setSp (h : s.Inv) (n : Nat) : (s.setSp n).Inv :=
  ⟨h.1, h.2, by rw [State.setSp_sp, sp_fits h.1.2]; exact Nat.mod_lt _ (Nat.two_pow_pos _),
    h.4, h.5, h.6, h.7, h.8, h.9, h.10, h.11, h.12, h.13, h.14⟩

theorem State.Inv.setRampx (h : s.Inv) (v : Byte) : (s.setRampx v).Inv :=
  ⟨h.1, h.2, h.3, fun e => by have e' : s.cfg.hasRampx = false := e; simp [e', h.4 e'],
    h.5, h.6, h.7, h.8, h.9, h.10, h.11, h.12, h.13, h.14⟩

theorem State.Inv.setRampy (h : s.Inv) (v : Byte) : (s.setRampy v).Inv :=
  ⟨h.1, h.2, h.3, h.4, fun e => by have e' : s.cfg.hasRampy = false := e; simp [e', h.5 e'],
    h.6, h.7, h.8, h.9, h.10, h.11, h.12, h.13, h.14⟩

theorem State.Inv.setRampz (h : s.Inv) (v : Byte) : (s.setRampz v).Inv :=
  ⟨h.1, h.2, h.3, h.4, h.5, fun e => by have e' : s.cfg.hasRampz = false := e; simp [e', h.6 e'],
    h.7, h.8, h.9, h.10, h.11, h.12, h.13, h.14⟩

theorem State.Inv.setRampd (h : s.Inv) (v : Byte) : (s.setRampd v).Inv :=
  ⟨h.1, h.2, h.3, h.4, h.5, h.6, fun e => by have e' : s.cfg.hasRampd = false := e; simp [e', h.7 e'],
    h.8, h.9, h.10, h.11, h.12, h.13, h.14⟩

theorem State.Inv.setEind (h : s.Inv) (v : Byte) : (s.setEind v).Inv :=
  ⟨h.1, h.2, h.3, h.4, h.5, h.6, h.7, fun e => by have e' : s.cfg.hasEind = false := e; simp [e', h.8 e'],
    h.9, h.10, h.11, h.12, h.13, h.14⟩

theorem State.Inv.setRamp (h : s.Inv) (p : Ptr) (v : Byte) : (s.setRamp p v).Inv := by
  cases p
  · exact h.setRampx v
  · exact h.setRampy v
  · exact h.setRampz v

theorem State.Inv.event (h : s.Inv) (e : IoEvent) : (s.event e).Inv :=
  ⟨h.1, h.2, h.3, h.4, h.5, h.6, h.7, h.8, h.9, h.10, h.11, h.12, h.13, h.14⟩

theorem State.Inv.draw (h : s.Inv) (n : Nat) : ({ s with draws := n } : State).Inv :=
  ⟨h.1, h.2, h.3, h.4, h.5, h.6, h.7, h.8, h.9, h.10, h.11, h.12, h.13, h.14⟩

theorem State.Inv.ramWrite (h : s.Inv) {a : Nat} (v : Byte) (ha : dataLoc s.cfg a = .ram) : (s.ramWrite a v).Inv :=
  ⟨h.1, h.2, h.3, h.4, h.5, h.6, h.7, h.8, Memory.wf_insert a v s.data h.9, fun c hc => by
    rcases Memory.mem_insert a v s.data c hc with rfl | hc
    · exact ha
    · exact h.10 c hc, h.11, h.12, h.13, h.14⟩

theorem State.Inv.setProgWord (h : s.Inv) {b : Nat} {v : Word} (ht : s.setProgWord b v = .next t) : t.Inv := by
  unfold State.setProgWord at ht
  split at ht
  · cases ht
  · cases ht
    exact ⟨h.1, h.2, h.3, h.4, h.5, h.6, h.7, h.8, h.9, h.10, Memory.flashWf_setFlashWord _ _ _ h.11, fun c hc => by
      rcases Memory.mem_setFlashWord _ _ _ c hc with hc | hc
      · show c.1 / 2 ≤ s.cfg.flashEnd; omega
      · exact h.12 c hc, h.13, h.14⟩

/-- Storing words keeps the canonical form. -/
theorem flashWf_storeWords (e : Nat) (l : List (Nat × Word)) (m : Memory) (h : Memory.flashWf m = true) :
    Memory.flashWf (storeWords e m l) = true := by
  induction l generalizing m with
  | nil => exact h
  | cons p l ih =>
    refine ih _ ?_
    split
    · exact Memory.flashWf_setFlashWord _ _ _ h
    · exact h

/-- Storing words lists bytes up to FLASHEND alone. -/
theorem mem_storeWords (e : Nat) (l : List (Nat × Word)) (m : Memory) (h : ∀ c ∈ m, c.1 / 2 ≤ e) :
    ∀ c ∈ storeWords e m l, c.1 / 2 ≤ e := by
  induction l generalizing m with
  | nil => exact h
  | cons p l ih =>
    refine ih _ ?_
    split
    · rename_i hp
      intro c hc
      rcases Memory.mem_setFlashWord _ _ _ c hc with hc | hc
      · omega
      · exact h c hc
    · exact h

theorem State.Inv.spmDevice (h : s.Inv) (a : Nat) (w : Word) : (s.spmDevice a w).Inv :=
  ⟨h.1, h.2, h.3, h.4, h.5, h.6, h.7, h.8, h.9, h.10, flashWf_storeWords _ _ _ h.11, mem_storeWords _ _ _ h.12,
    h.13, h.14⟩

theorem State.Inv.charge (h : s.Inv) (c : Cost) : (s.charge c).Inv := by
  cases c
  all_goals exact ⟨h.1, h.2, h.3, h.4, h.5, h.6, h.7, h.8, h.9, h.10, h.11, h.12, h.13, h.14⟩

theorem State.Inv.takeEnv (h : s.Inv) : s.takeEnv.Inv :=
  ⟨h.1, h.2, h.3, h.4, h.5, h.6, h.7, h.8, h.9, h.10, h.11, h.12, h.13, h.14⟩

theorem State.Inv.applyReset (h : s.Inv) : s.applyReset.Inv where
  legal := h.1
  pc := by
    show (BitVec.ofNat 22 (s.cfg.pcReset % 2 ^ s.cfg.pcBits)).toNat < _
    rw [pc_fits h.1.1]; exact Nat.mod_lt _ (Nat.two_pow_pos _)
  sp := by
    show (BitVec.ofNat 16 (s.cfg.spReset % 2 ^ s.cfg.spBits)).toNat < _
    rw [sp_fits h.1.2]; exact Nat.mod_lt _ (Nat.two_pow_pos _)
  rampx := fun _ => rfl
  rampy := fun _ => rfl
  rampz := fun _ => rfl
  rampd := fun _ => rfl
  eind := fun _ => rfl
  dataWf := rfl
  dataRam := fun _ hc => (List.not_mem_nil hc).elim
  progWf := h.11
  progEnd := h.12
  service := fun _ => List.Pairwise.nil
  levels := fun _ hl => (List.not_mem_nil hl).elim

theorem State.Inv.ioRead (h : s.Inv) (a : Nat) : (s.ioRead a).2.Inv := by
  rcases State.ioRead_cases s a with e | e
  · rw [e]; exact h
  · rw [e]; exact h.event _

theorem State.Inv.ioWrite (h : s.Inv) (a : Nat) (v : Byte) : (s.ioWrite a v).Inv := by
  rcases State.ioWrite_cases s a v with e | ⟨x, e⟩ | e | e | e | e | e | e <;> rw [e]
  · exact h.storeSreg v
  · exact h.setSp _
  · exact h.setRampd v
  · exact h.setRampx v
  · exact h.setRampy v
  · exact h.setRampz v
  · exact h.setEind v
  · exact h.event _

theorem State.Inv.memRead (h : s.Inv) {a : Nat} {v : Byte} (ht : s.memRead a = .next (v, t)) : t.Inv := by
  rcases State.memRead_cases ht with rfl | ⟨e, rfl⟩ | ⟨_, rfl⟩
  · exact h
  · exact h.event e
  · exact h.draw _

theorem State.Inv.memWrite (h : s.Inv) {a : Nat} {v : Byte} (ht : s.memWrite a v = .next t) : t.Inv := by
  rcases State.memWrite_cases ht with ⟨hr, rfl⟩ | ⟨i, _, rfl⟩ | ⟨p, _, rfl⟩ | ⟨_, rfl⟩
  · exact h.ramWrite v hr
  · exact h.setR i v
  · exact h.ioWrite p v
  · exact h.event _

theorem State.Inv.push (h : s.Inv) {v : Byte} (ht : s.push v = .next t) : t.Inv := by
  obtain ⟨u, hu, rfl⟩ := State.push_cases ht
  exact (h.memWrite hu).setSp _

theorem State.Inv.pop (h : s.Inv) {v : Byte} (ht : s.pop = .next (v, t)) : t.Inv := (h.setSp _).memRead ht

theorem State.Inv.pushPc (h : s.Inv) {a : BitVec 22} (ht : s.pushPc a = .next t) : t.Inv := by
  rw [State.pushPc, andThen_eq_next] at ht
  obtain ⟨u, hu, ht⟩ := ht
  rw [andThen_eq_next] at ht
  obtain ⟨w, hw, ht⟩ := ht
  split at ht
  · exact ((h.push hu).push hw).push ht
  · cases ht; exact (h.push hu).push hw

theorem State.Inv.popPc (h : s.Inv) {a : Nat} (ht : s.popPc = .next (a, t)) : t.Inv := by
  rw [State.popPc, andThen_eq_next] at ht
  obtain ⟨⟨e, u⟩, hu, ht⟩ := ht
  rw [andThen_eq_next] at ht
  obtain ⟨⟨x, v⟩, hv, ht⟩ := ht
  rw [andThen_eq_next] at ht
  obtain ⟨⟨y, w⟩, hw, ht⟩ := ht
  cases ht
  have hu' : u.Inv := by
    split at hu
    · exact h.pop hu
    · cases hu; exact h
  exact (hu'.pop hv).pop hw

theorem State.Inv.skipIf (h : s.Inv) {c : Bool} (ht : s.skipIf c = .next t) : t.Inv := by
  rcases State.skipIf_cases ht with ⟨_, rfl⟩ | ⟨_, w, _, rfl⟩
  · exact h.advance 1
  · exact h.advance _

end Sys2Proof.Machine
end

