-- ==== Sys2Proof/Laws/Operands.lean ====
section
/-! SUPPORT. For each shared operation of the data-transfer, flow and arithmetic instructions, once, everything it can do;
and that it keeps the invariant. -/

namespace Sys2Proof.Machine

variable {s t : State}

/-! ### Pointers and blocks -/

theorem State.ptrSet_cfg (s : State) (p : Ptr) (n : Nat) : (s.ptrSet p n).cfg = s.cfg := by
  unfold State.ptrSet
  split
  · rfl
  · rfl
  · cases p <;> rfl

theorem State.ramRead_cfg (s : State) (a : Nat) : (s.ramRead a).2.cfg = s.cfg := by
  unfold State.ramRead; split <;> rfl

theorem State.Inv.ptrSet (h : s.Inv) (p : Ptr) (n : Nat) : (s.ptrSet p n).Inv := by
  unfold State.ptrSet
  split
  · exact h.setR _ _
  · exact h.setPair _ _
  · exact (h.setPair _ _).setRamp _ _

theorem State.Inv.setElpmAddr (h : s.Inv) (n : Nat) : (s.setElpmAddr n).Inv := (h.setPair _ _).setRampz _

theorem State.Inv.setBlock (h : s.Inv) (b : BitVec 128) : (s.setBlock b).Inv := by
  unfold State.setBlock
  revert s
  generalize lowRegs = l
  induction l with
  | nil => intro s h; exact h
  | cons i l ih => intro s h; exact ih (h.setR _ _)

theorem State.Inv.ramRead (h : s.Inv) (a : Nat) : (s.ramRead a).2.Inv := by
  unfold State.ramRead
  split
  · exact h
  · exact h.draw _

theorem State.Inv.irqReturn (h : s.Inv) : s.irqReturn.Inv :=
  ⟨h.1, h.2, h.3, h.4, h.5, h.6, h.7, h.8, h.9, h.10, h.11, h.12,
    fun e => List.Pairwise.sublist (List.tail_sublist _) (h.13 e), fun l hl => h.14 l (List.mem_of_mem_tail hl)⟩

/-! ### Loads and stores -/

theorem loadAt_cases {a n : Nat} {d : Reg} (h : loadAt a d n s = .next t) :
    ∃ v u, s.memRead a = .next (v, u) ∧ t = (u.setR d v).advance n := by
  rw [loadAt, andThen_eq_next] at h
  obtain ⟨⟨v, u⟩, hu, h⟩ := h
  cases h
  exact ⟨v, u, hu, rfl⟩

theorem loadInc_cases {mn : String} {p : Ptr} {d : Reg} (h : loadInc mn p d s = .next t) :
    p.holds d = false ∧ ∃ v u, s.memRead (s.ptrGet p) = .next (v, u) ∧
      t = ((u.ptrSet p (s.ptrUp p)).setR d v).advance 1 := by
  unfold loadInc at h
  split at h
  · cases h
  · rename_i hp
    rw [andThen_eq_next] at h
    obtain ⟨⟨v, u⟩, hu, h⟩ := h
    cases h
    exact ⟨by simpa using hp, v, u, hu, rfl⟩

theorem loadDec_cases {mn : String} {p : Ptr} {d : Reg} (h : loadDec mn p d s = .next t) :
    p.holds d = false ∧ ∃ v u, (s.ptrSet p (s.ptrDown p)).memRead (s.ptrDown p) = .next (v, u) ∧
      t = (u.setR d v).advance 1 := by
  unfold loadDec at h
  split at h
  · cases h
  · rename_i hp
    obtain ⟨v, u, hu, e⟩ := loadAt_cases h
    exact ⟨by simpa using hp, v, u, hu, e⟩

theorem storeAt_cases {a n : Nat} {r : Reg} (h : storeAt a r n s = .next t) :
    ∃ u, s.memWrite a (s.r r) = .next u ∧ t = u.advance n := by
  rw [storeAt, andThen_eq_next] at h
  obtain ⟨u, hu, h⟩ := h
  cases h
  exact ⟨u, hu, rfl⟩

theorem storeInc_cases {mn : String} {p : Ptr} {r : Reg} (h : storeInc mn p r s = .next t) :
    p.holds r = false ∧ ∃ u, s.memWrite (s.ptrGet p) (s.r r) = .next u ∧ t = (u.ptrSet p (s.ptrUp p)).advance 1 := by
  unfold storeInc at h
  split at h
  · cases h
  · rename_i hp
    rw [andThen_eq_next] at h
    obtain ⟨u, hu, h⟩ := h
    cases h
    exact ⟨by simpa using hp, u, hu, rfl⟩

theorem storeDec_cases {mn : String} {p : Ptr} {r : Reg} (h : storeDec mn p r s = .next t) :
    p.holds r = false ∧ ∃ u, (s.ptrSet p (s.ptrDown p)).memWrite (s.ptrDown p) ((s.ptrSet p (s.ptrDown p)).r r) = .next u ∧
      t = u.advance 1 := by
  unfold storeDec at h
  split at h
  · cases h
  · rename_i hp
    obtain ⟨u, hu, e⟩ := storeAt_cases h
    exact ⟨by simpa using hp, u, hu, e⟩

theorem loadProg_cases {b : Nat} {d : Reg} (h : loadProg b d s = .next t) :
    ∃ v, s.progByte b = .next v ∧ t = (s.setR d v).advance 1 := by
  rw [loadProg, andThen_eq_next] at h
  obtain ⟨v, hv, h⟩ := h
  cases h
  exact ⟨v, hv, rfl⟩

/-- The bytes of a word of two. -/
theorem word_low (y x : Byte) : (y ++ x).extractLsb' 0 8 = x := by
  apply BitVec.eq_of_getLsbD_eq
  intro j hj
  rw [BitVec.getLsbD_extractLsb', BitVec.getLsbD_append]
  simp [hj]

theorem word_high (y x : Byte) : (y ++ x).extractLsb' 8 8 = y := by
  apply BitVec.eq_of_getLsbD_eq
  intro j hj
  rw [BitVec.getLsbD_extractLsb', BitVec.getLsbD_append]
  simp [hj]

/-- A byte of program space, in full. -/
theorem State.progByte_eq (s : State) (b : Nat) :
    s.progByte b = if s.cfg.flashEnd < b / 2 then .fault (.unmappedProgram (b / 2)) else .next (s.prog.flashByte b) := by
  unfold State.progByte State.progWord
  split
  · rfl
  · simp only [andThen, Memory.flashWord]
    congr 1
    split
    · rw [show 2 * (b / 2) = b by omega]; exact word_low _ _
    · rw [show 2 * (b / 2) + 1 = b by omega]; exact word_high _ _

theorem rmw_cases {mn : String} {f : Byte → Byte → Byte} {d : Reg} (h : rmw mn f d s = .next t) :
    dataLoc s.cfg (s.ptrGet .z) = .ram ∧
      t = (((s.ramRead (s.ptrGet .z)).2.ramWrite (s.ptrGet .z) (f (s.r d) (s.ramRead (s.ptrGet .z)).1)).setR d
        (s.ramRead (s.ptrGet .z)).1).advance 1 := by
  simp only [rmw] at h
  split at h
  · rename_i hr
    cases h
    exact ⟨hr, rfl⟩
  all_goals cases h

theorem spmWrite_cases (h : spmWrite s = .next t) :
    (s.cfg.spmEffect = .writeWord ∧ s.setProgWord s.elpmAddr (s.pair 0) = .next t) ∨
      (s.cfg.spmEffect = .device ∧ t = s.spmDevice s.elpmAddr (s.pair 0)) := by
  unfold spmWrite at h
  split at h
  · cases h
  · rename_i e; exact .inl ⟨e, h⟩
  · rename_i e; cases h; exact .inr ⟨e, rfl⟩

theorem State.Inv.loadAt (h : s.Inv) {a n : Nat} {d : Reg} (ht : loadAt a d n s = .next t) : t.Inv := by
  obtain ⟨v, u, hu, rfl⟩ := loadAt_cases ht
  exact ((h.memRead hu).setR _ _).advance _

theorem State.Inv.loadInc (h : s.Inv) {mn : String} {p : Ptr} {d : Reg} (ht : loadInc mn p d s = .next t) : t.Inv := by
  obtain ⟨_, v, u, hu, rfl⟩ := loadInc_cases ht
  exact (((h.memRead hu).ptrSet _ _).setR _ _).advance _

theorem State.Inv.loadDec (h : s.Inv) {mn : String} {p : Ptr} {d : Reg} (ht : loadDec mn p d s = .next t) : t.Inv := by
  obtain ⟨_, v, u, hu, rfl⟩ := loadDec_cases ht
  exact (((h.ptrSet _ _).memRead hu).setR _ _).advance _

theorem State.Inv.storeAt (h : s.Inv) {a n : Nat} {r : Reg} (ht : storeAt a r n s = .next t) : t.Inv := by
  obtain ⟨u, hu, rfl⟩ := storeAt_cases ht
  exact (h.memWrite hu).advance _

theorem State.Inv.storeInc (h : s.Inv) {mn : String} {p : Ptr} {r : Reg} (ht : storeInc mn p r s = .next t) : t.Inv := by
  obtain ⟨_, u, hu, rfl⟩ := storeInc_cases ht
  exact ((h.memWrite hu).ptrSet _ _).advance _

theorem State.Inv.storeDec (h : s.Inv) {mn : String} {p : Ptr} {r : Reg} (ht : storeDec mn p r s = .next t) : t.Inv := by
  obtain ⟨_, u, hu, rfl⟩ := storeDec_cases ht
  exact ((h.ptrSet _ _).memWrite hu).advance _

theorem State.Inv.loadProg (h : s.Inv) {b : Nat} {d : Reg} (ht : loadProg b d s = .next t) : t.Inv := by
  obtain ⟨v, _, rfl⟩ := loadProg_cases ht
  exact (h.setR _ _).advance _

theorem State.Inv.rmw (h : s.Inv) {mn : String} {f : Byte → Byte → Byte} {d : Reg} (ht : rmw mn f d s = .next t) :
    t.Inv := by
  obtain ⟨hr, rfl⟩ := rmw_cases ht
  exact (((h.ramRead _).ramWrite _ (by rw [State.ramRead_cfg]; exact hr)).setR _ _).advance _

theorem State.Inv.spmWrite (h : s.Inv) (ht : spmWrite s = .next t) : t.Inv := by
  rcases spmWrite_cases ht with ⟨_, e⟩ | ⟨_, rfl⟩
  · exact h.setProgWord e
  · exact h.spmDevice _ _

/-! ### Arithmetic -/

theorem State.Inv.writeAlu (h : s.Inv) {d : Reg} {f : Alu} {put : Byte → Alu → Byte} (ht : writeAlu d f put s = .next t) :
    t.Inv := by
  cases ht; exact ((h.setR _ _).setSreg _).advance _

theorem State.Inv.compareAlu (h : s.Inv) {f : Alu} (ht : compareAlu f s = .next t) : t.Inv := by
  cases ht; exact (h.setSreg _).advance _

theorem State.Inv.writeAlu16 (h : s.Inv) {d : Reg} {f : Alu16} (ht : writeAlu16 d f s = .next t) : t.Inv := by
  cases ht; exact ((h.setPair _ _).setSreg _).advance _

theorem State.Inv.writeProduct (h : s.Inv) {f : Alu16} (ht : writeProduct f s = .next t) : t.Inv := by
  cases ht; exact ((h.setPair _ _).setSreg _).advance _

theorem State.Inv.writeFlag (h : s.Inv) {f : BitVec 3} {x : Bool} (ht : writeFlag f x s = .next t) : t.Inv := by
  cases ht; exact (h.storeSreg _).advance _

theorem State.Inv.writeIoBit (h : s.Inv) {a : BitVec 5} {b : BitVec 3} {x : Bool} (ht : writeIoBit a b x s = .next t) :
    t.Inv := by
  cases ht; exact ((h.ioRead _).ioWrite _ _).advance _

/-! ### Flow -/

/-- A branch goes to its target or on. -/
theorem branchIf_eq (c : Bool) (k : BitVec 7) (s : State) :
    branchIf c k s = .next (if c then s.setPc (s.relTarget k.toInt) else s.advance 1) := by
  cases c <;> rfl

theorem callTo_cases {n target : Nat} (h : callTo n target s = .next t) :
    ∃ u, s.pushPc (s.returnAddr n) = .next u ∧ t = u.setPc target := by
  rw [callTo, andThen_eq_next] at h
  obtain ⟨u, hu, h⟩ := h
  cases h
  exact ⟨u, hu, rfl⟩

theorem State.Inv.branchIf (h : s.Inv) {c : Bool} {k : BitVec 7} (ht : branchIf c k s = .next t) : t.Inv := by
  rw [branchIf_eq] at ht
  cases ht
  split
  · exact h.setPc _
  · exact h.advance _

theorem State.Inv.callTo (h : s.Inv) {n target : Nat} (ht : callTo n target s = .next t) : t.Inv := by
  obtain ⟨u, hu, rfl⟩ := callTo_cases ht
  exact (h.pushPc hu).setPc _

/-- What a push of a return address keeps: the configuration, the levels in service. -/
theorem State.pushPc_keeps {a : BitVec 22} (h : s.pushPc a = .next t) :
    t.cfg = s.cfg ∧ t.inService = s.inService := by
  have mw : ∀ {s t : State} {a : Nat} {v : Byte}, s.memWrite a v = .next t → t.cfg = s.cfg ∧ t.inService = s.inService := by
    intro s t a v h
    rcases State.memWrite_cases h with ⟨_, rfl⟩ | ⟨i, _, rfl⟩ | ⟨p, _, rfl⟩ | ⟨_, rfl⟩
    · exact ⟨rfl, rfl⟩
    · exact ⟨rfl, rfl⟩
    · rcases State.ioWrite_cases s p v with e | ⟨x, e⟩ | e | e | e | e | e | e <;> rw [e] <;> exact ⟨rfl, rfl⟩
    · exact ⟨rfl, rfl⟩
  have pu : ∀ {s t : State} {v : Byte}, s.push v = .next t → t.cfg = s.cfg ∧ t.inService = s.inService := by
    intro s t v h
    obtain ⟨u, hu, rfl⟩ := State.push_cases h
    exact ⟨(mw hu).1, (mw hu).2⟩
  rw [State.pushPc, andThen_eq_next] at h
  obtain ⟨u, hu, h⟩ := h
  rw [andThen_eq_next] at h
  obtain ⟨w, hw, h⟩ := h
  have h1 := pu hu
  have h2 := pu hw
  split at h
  · have h3 := pu h
    exact ⟨by rw [h3.1, h2.1, h1.1], by rw [h3.2, h2.2, h1.2]⟩
  · cases h
    exact ⟨by rw [h2.1, h1.1], by rw [h2.2, h1.2]⟩

end Sys2Proof.Machine
end

