-- ==== Sys2Proof/Laws/PerInstr.lean ====
section
/-! SUPPORT. The family Canonical: what holds of every instruction and of the canonical instruction it stands for (30_encoding
R115), one lemma per constructor. -/

namespace Sys2Proof.Laws.Canonical

/-- Of an instruction and its canonical one: the canonical one is its own, is well-formed where the instruction is, is had by
the same cores, names registers of the same half, and has as many words. -/
def Statement (i : Instr) : Prop :=
  i.canonical.canonical = i.canonical ∧ (i.wellFormed = true → i.canonical.wellFormed = true) ∧
    (∀ core : Core, core.has i.canonical = core.has i) ∧ i.canonical.namesUpperOnly = i.namesUpperOnly ∧
    (encode i.canonical).length = (encode i).length

theorem add (d : Reg) (r : Reg) : Statement (.add d r) := ⟨rfl, id, fun _ => rfl, rfl, rfl⟩
theorem adc (d : Reg) (r : Reg) : Statement (.adc d r) := ⟨rfl, id, fun _ => rfl, rfl, rfl⟩
theorem adiw (d : Reg) (k : BitVec 6) : Statement (.adiw d k) := ⟨rfl, id, fun _ => rfl, rfl, rfl⟩
theorem sub (d : Reg) (r : Reg) : Statement (.sub d r) := ⟨rfl, id, fun _ => rfl, rfl, rfl⟩
theorem subi (d : Reg) (k : BitVec 8) : Statement (.subi d k) := ⟨rfl, id, fun _ => rfl, rfl, rfl⟩
theorem sbc (d : Reg) (r : Reg) : Statement (.sbc d r) := ⟨rfl, id, fun _ => rfl, rfl, rfl⟩
theorem sbci (d : Reg) (k : BitVec 8) : Statement (.sbci d k) := ⟨rfl, id, fun _ => rfl, rfl, rfl⟩
theorem sbiw (d : Reg) (k : BitVec 6) : Statement (.sbiw d k) := ⟨rfl, id, fun _ => rfl, rfl, rfl⟩
theorem and (d : Reg) (r : Reg) : Statement (.and d r) := ⟨rfl, id, fun _ => rfl, rfl, rfl⟩
theorem andi (d : Reg) (k : BitVec 8) : Statement (.andi d k) := ⟨rfl, id, fun _ => rfl, rfl, rfl⟩
theorem or (d : Reg) (r : Reg) : Statement (.or d r) := ⟨rfl, id, fun _ => rfl, rfl, rfl⟩
theorem ori (d : Reg) (k : BitVec 8) : Statement (.ori d k) := ⟨rfl, id, fun _ => rfl, rfl, rfl⟩
theorem eor (d : Reg) (r : Reg) : Statement (.eor d r) := ⟨rfl, id, fun _ => rfl, rfl, rfl⟩
theorem com (d : Reg) : Statement (.com d) := ⟨rfl, id, fun _ => rfl, rfl, rfl⟩
theorem neg (d : Reg) : Statement (.neg d) := ⟨rfl, id, fun _ => rfl, rfl, rfl⟩
theorem sbr (d : Reg) (k : BitVec 8) : Statement (.sbr d k) := ⟨rfl, id, fun _ => rfl, rfl, rfl⟩
theorem cbr (d : Reg) (k : BitVec 8) : Statement (.cbr d k) := ⟨rfl, id, fun _ => rfl, rfl, rfl⟩
theorem inc (d : Reg) : Statement (.inc d) := ⟨rfl, id, fun _ => rfl, rfl, rfl⟩
theorem dec (d : Reg) : Statement (.dec d) := ⟨rfl, id, fun _ => rfl, rfl, rfl⟩
theorem tst (d : Reg) : Statement (.tst d) := ⟨rfl, id, fun _ => rfl, Bool.and_self _, rfl⟩
theorem clr (d : Reg) : Statement (.clr d) := ⟨rfl, id, fun _ => rfl, Bool.and_self _, rfl⟩
theorem ser (d : Reg) : Statement (.ser d) := ⟨rfl, id, fun _ => rfl, rfl, rfl⟩
theorem mul (d : Reg) (r : Reg) : Statement (.mul d r) := ⟨rfl, id, fun _ => rfl, rfl, rfl⟩
theorem muls (d : Reg) (r : Reg) : Statement (.muls d r) := ⟨rfl, id, fun _ => rfl, rfl, rfl⟩
theorem mulsu (d : Reg) (r : Reg) : Statement (.mulsu d r) := ⟨rfl, id, fun _ => rfl, rfl, rfl⟩
theorem fmul (d : Reg) (r : Reg) : Statement (.fmul d r) := ⟨rfl, id, fun _ => rfl, rfl, rfl⟩
theorem fmuls (d : Reg) (r : Reg) : Statement (.fmuls d r) := ⟨rfl, id, fun _ => rfl, rfl, rfl⟩
theorem fmulsu (d : Reg) (r : Reg) : Statement (.fmulsu d r) := ⟨rfl, id, fun _ => rfl, rfl, rfl⟩
theorem des (k : BitVec 4) : Statement (.des k) := ⟨rfl, id, fun _ => rfl, rfl, rfl⟩
theorem rjmp (k : BitVec 12) : Statement (.rjmp k) := ⟨rfl, id, fun _ => rfl, rfl, rfl⟩
theorem ijmp : Statement .ijmp := ⟨rfl, id, fun _ => rfl, rfl, rfl⟩
theorem eijmp : Statement .eijmp := ⟨rfl, id, fun _ => rfl, rfl, rfl⟩
theorem jmp (k : BitVec 22) : Statement (.jmp k) := ⟨rfl, id, fun _ => rfl, rfl, rfl⟩
theorem rcall (k : BitVec 12) : Statement (.rcall k) := ⟨rfl, id, fun _ => rfl, rfl, rfl⟩
theorem icall : Statement .icall := ⟨rfl, id, fun _ => rfl, rfl, rfl⟩
theorem eicall : Statement .eicall := ⟨rfl, id, fun _ => rfl, rfl, rfl⟩
theorem call (k : BitVec 22) : Statement (.call k) := ⟨rfl, id, fun _ => rfl, rfl, rfl⟩
theorem ret : Statement .ret := ⟨rfl, id, fun _ => rfl, rfl, rfl⟩
theorem reti : Statement .reti := ⟨rfl, id, fun _ => rfl, rfl, rfl⟩
theorem cpse (d : Reg) (r : Reg) : Statement (.cpse d r) := ⟨rfl, id, fun _ => rfl, rfl, rfl⟩
theorem cp (d : Reg) (r : Reg) : Statement (.cp d r) := ⟨rfl, id, fun _ => rfl, rfl, rfl⟩
theorem cpc (d : Reg) (r : Reg) : Statement (.cpc d r) := ⟨rfl, id, fun _ => rfl, rfl, rfl⟩
theorem cpi (d : Reg) (k : BitVec 8) : Statement (.cpi d k) := ⟨rfl, id, fun _ => rfl, rfl, rfl⟩
theorem sbrc (r : Reg) (b : BitVec 3) : Statement (.sbrc r b) := ⟨rfl, id, fun _ => rfl, rfl, rfl⟩
theorem sbrs (r : Reg) (b : BitVec 3) : Statement (.sbrs r b) := ⟨rfl, id, fun _ => rfl, rfl, rfl⟩
theorem sbic (a : BitVec 5) (b : BitVec 3) : Statement (.sbic a b) := ⟨rfl, id, fun _ => rfl, rfl, rfl⟩
theorem sbis (a : BitVec 5) (b : BitVec 3) : Statement (.sbis a b) := ⟨rfl, id, fun _ => rfl, rfl, rfl⟩
theorem brbs (f : BitVec 3) (k : BitVec 7) : Statement (.brbs f k) := ⟨rfl, id, fun _ => rfl, rfl, rfl⟩
theorem brbc (f : BitVec 3) (k : BitVec 7) : Statement (.brbc f k) := ⟨rfl, id, fun _ => rfl, rfl, rfl⟩
theorem breq (k : BitVec 7) : Statement (.breq k) := ⟨rfl, id, fun _ => rfl, rfl, rfl⟩
theorem brne (k : BitVec 7) : Statement (.brne k) := ⟨rfl, id, fun _ => rfl, rfl, rfl⟩
theorem brcs (k : BitVec 7) : Statement (.brcs k) := ⟨rfl, id, fun _ => rfl, rfl, rfl⟩
theorem brcc (k : BitVec 7) : Statement (.brcc k) := ⟨rfl, id, fun _ => rfl, rfl, rfl⟩
theorem brsh (k : BitVec 7) : Statement (.brsh k) := ⟨rfl, id, fun _ => rfl, rfl, rfl⟩
theorem brlo (k : BitVec 7) : Statement (.brlo k) := ⟨rfl, id, fun _ => rfl, rfl, rfl⟩
theorem brmi (k : BitVec 7) : Statement (.brmi k) := ⟨rfl, id, fun _ => rfl, rfl, rfl⟩
theorem brpl (k : BitVec 7) : Statement (.brpl k) := ⟨rfl, id, fun _ => rfl, rfl, rfl⟩
theorem brge (k : BitVec 7) : Statement (.brge k) := ⟨rfl, id, fun _ => rfl, rfl, rfl⟩
theorem brlt (k : BitVec 7) : Statement (.brlt k) := ⟨rfl, id, fun _ => rfl, rfl, rfl⟩
theorem brhs (k : BitVec 7) : Statement (.brhs k) := ⟨rfl, id, fun _ => rfl, rfl, rfl⟩
theorem brhc (k : BitVec 7) : Statement (.brhc k) := ⟨rfl, id, fun _ => rfl, rfl, rfl⟩
theorem brts (k : BitVec 7) : Statement (.brts k) := ⟨rfl, id, fun _ => rfl, rfl, rfl⟩
theorem brtc (k : BitVec 7) : Statement (.brtc k) := ⟨rfl, id, fun _ => rfl, rfl, rfl⟩
theorem brvs (k : BitVec 7) : Statement (.brvs k) := ⟨rfl, id, fun _ => rfl, rfl, rfl⟩
theorem brvc (k : BitVec 7) : Statement (.brvc k) := ⟨rfl, id, fun _ => rfl, rfl, rfl⟩
theorem brie (k : BitVec 7) : Statement (.brie k) := ⟨rfl, id, fun _ => rfl, rfl, rfl⟩
theorem brid (k : BitVec 7) : Statement (.brid k) := ⟨rfl, id, fun _ => rfl, rfl, rfl⟩
theorem mov (d : Reg) (r : Reg) : Statement (.mov d r) := ⟨rfl, id, fun _ => rfl, rfl, rfl⟩
theorem movw (d : Reg) (r : Reg) : Statement (.movw d r) := ⟨rfl, id, fun _ => rfl, rfl, rfl⟩
theorem ldi (d : Reg) (k : BitVec 8) : Statement (.ldi d k) := ⟨rfl, id, fun _ => rfl, rfl, rfl⟩
theorem lds (d : Reg) (k : BitVec 16) : Statement (.lds d k) := ⟨rfl, id, fun _ => rfl, rfl, rfl⟩
theorem ldsRc (d : Reg) (k : BitVec 8) : Statement (.ldsRc d k) := ⟨rfl, id, fun _ => rfl, rfl, rfl⟩
theorem ldX (d : Reg) : Statement (.ldX d) := ⟨rfl, id, fun _ => rfl, rfl, rfl⟩
theorem ldXInc (d : Reg) : Statement (.ldXInc d) := ⟨rfl, id, fun _ => rfl, rfl, rfl⟩
theorem ldXDec (d : Reg) : Statement (.ldXDec d) := ⟨rfl, id, fun _ => rfl, rfl, rfl⟩
theorem ldY (d : Reg) : Statement (.ldY d) := ⟨rfl, id, fun _ => rfl, rfl, rfl⟩
theorem ldYInc (d : Reg) : Statement (.ldYInc d) := ⟨rfl, id, fun _ => rfl, rfl, rfl⟩
theorem ldYDec (d : Reg) : Statement (.ldYDec d) := ⟨rfl, id, fun _ => rfl, rfl, rfl⟩
theorem lddY (d : Reg) (q : BitVec 6) : Statement (.lddY d q) := ⟨rfl, id, fun _ => rfl, rfl, rfl⟩
theorem ldZ (d : Reg) : Statement (.ldZ d) := ⟨rfl, id, fun _ => rfl, rfl, rfl⟩
theorem ldZInc (d : Reg) : Statement (.ldZInc d) := ⟨rfl, id, fun _ => rfl, rfl, rfl⟩
theorem ldZDec (d : Reg) : Statement (.ldZDec d) := ⟨rfl, id, fun _ => rfl, rfl, rfl⟩
theorem lddZ (d : Reg) (q : BitVec 6) : Statement (.lddZ d q) := ⟨rfl, id, fun _ => rfl, rfl, rfl⟩
theorem sts (k : BitVec 16) (r : Reg) : Statement (.sts k r) := ⟨rfl, id, fun _ => rfl, rfl, rfl⟩
theorem stsRc (k : BitVec 8) (r : Reg) : Statement (.stsRc k r) := ⟨rfl, id, fun _ => rfl, rfl, rfl⟩
theorem stX (r : Reg) : Statement (.stX r) := ⟨rfl, id, fun _ => rfl, rfl, rfl⟩
theorem stXInc (r : Reg) : Statement (.stXInc r) := ⟨rfl, id, fun _ => rfl, rfl, rfl⟩
theorem stXDec (r : Reg) : Statement (.stXDec r) := ⟨rfl, id, fun _ => rfl, rfl, rfl⟩
theorem stY (r : Reg) : Statement (.stY r) := ⟨rfl, id, fun _ => rfl, rfl, rfl⟩
theorem stYInc (r : Reg) : Statement (.stYInc r) := ⟨rfl, id, fun _ => rfl, rfl, rfl⟩
theorem stYDec (r : Reg) : Statement (.stYDec r) := ⟨rfl, id, fun _ => rfl, rfl, rfl⟩
theorem stdY (q : BitVec 6) (r : Reg) : Statement (.stdY q r) := ⟨rfl, id, fun _ => rfl, rfl, rfl⟩
theorem stZ (r : Reg) : Statement (.stZ r) := ⟨rfl, id, fun _ => rfl, rfl, rfl⟩
theorem stZInc (r : Reg) : Statement (.stZInc r) := ⟨rfl, id, fun _ => rfl, rfl, rfl⟩
theorem stZDec (r : Reg) : Statement (.stZDec r) := ⟨rfl, id, fun _ => rfl, rfl, rfl⟩
theorem stdZ (q : BitVec 6) (r : Reg) : Statement (.stdZ q r) := ⟨rfl, id, fun _ => rfl, rfl, rfl⟩
theorem lpmR0 : Statement .lpmR0 := ⟨rfl, id, fun _ => rfl, rfl, rfl⟩
theorem lpmZ (d : Reg) : Statement (.lpmZ d) := ⟨rfl, id, fun _ => rfl, rfl, rfl⟩
theorem lpmZInc (d : Reg) : Statement (.lpmZInc d) := ⟨rfl, id, fun _ => rfl, rfl, rfl⟩
theorem elpmR0 : Statement .elpmR0 := ⟨rfl, id, fun _ => rfl, rfl, rfl⟩
theorem elpmZ (d : Reg) : Statement (.elpmZ d) := ⟨rfl, id, fun _ => rfl, rfl, rfl⟩
theorem elpmZInc (d : Reg) : Statement (.elpmZInc d) := ⟨rfl, id, fun _ => rfl, rfl, rfl⟩
theorem spm : Statement .spm := ⟨rfl, id, fun _ => rfl, rfl, rfl⟩
theorem spmZInc : Statement .spmZInc := ⟨rfl, id, fun _ => rfl, rfl, rfl⟩
theorem inIo (d : Reg) (a : BitVec 6) : Statement (.inIo d a) := ⟨rfl, id, fun _ => rfl, rfl, rfl⟩
theorem out (a : BitVec 6) (r : Reg) : Statement (.out a r) := ⟨rfl, id, fun _ => rfl, rfl, rfl⟩
theorem push (r : Reg) : Statement (.push r) := ⟨rfl, id, fun _ => rfl, rfl, rfl⟩
theorem pop (d : Reg) : Statement (.pop d) := ⟨rfl, id, fun _ => rfl, rfl, rfl⟩
theorem xch (d : Reg) : Statement (.xch d) := ⟨rfl, id, fun _ => rfl, rfl, rfl⟩
theorem las (d : Reg) : Statement (.las d) := ⟨rfl, id, fun _ => rfl, rfl, rfl⟩
theorem lac (d : Reg) : Statement (.lac d) := ⟨rfl, id, fun _ => rfl, rfl, rfl⟩
theorem lat (d : Reg) : Statement (.lat d) := ⟨rfl, id, fun _ => rfl, rfl, rfl⟩
theorem lsl (d : Reg) : Statement (.lsl d) := ⟨rfl, id, fun _ => rfl, Bool.and_self _, rfl⟩
theorem lsr (d : Reg) : Statement (.lsr d) := ⟨rfl, id, fun _ => rfl, rfl, rfl⟩
theorem rol (d : Reg) : Statement (.rol d) := ⟨rfl, id, fun _ => rfl, Bool.and_self _, rfl⟩
theorem ror (d : Reg) : Statement (.ror d) := ⟨rfl, id, fun _ => rfl, rfl, rfl⟩
theorem asr (d : Reg) : Statement (.asr d) := ⟨rfl, id, fun _ => rfl, rfl, rfl⟩
theorem swap (d : Reg) : Statement (.swap d) := ⟨rfl, id, fun _ => rfl, rfl, rfl⟩
theorem sbi (a : BitVec 5) (b : BitVec 3) : Statement (.sbi a b) := ⟨rfl, id, fun _ => rfl, rfl, rfl⟩
theorem cbi (a : BitVec 5) (b : BitVec 3) : Statement (.cbi a b) := ⟨rfl, id, fun _ => rfl, rfl, rfl⟩
theorem bst (r : Reg) (b : BitVec 3) : Statement (.bst r b) := ⟨rfl, id, fun _ => rfl, rfl, rfl⟩
theorem bld (d : Reg) (b : BitVec 3) : Statement (.bld d b) := ⟨rfl, id, fun _ => rfl, rfl, rfl⟩
theorem bset (f : BitVec 3) : Statement (.bset f) := ⟨rfl, id, fun _ => rfl, rfl, rfl⟩
theorem bclr (f : BitVec 3) : Statement (.bclr f) := ⟨rfl, id, fun _ => rfl, rfl, rfl⟩
theorem sec : Statement .sec := ⟨rfl, id, fun _ => rfl, rfl, rfl⟩
theorem clc : Statement .clc := ⟨rfl, id, fun _ => rfl, rfl, rfl⟩
theorem sen : Statement .sen := ⟨rfl, id, fun _ => rfl, rfl, rfl⟩
theorem cln : Statement .cln := ⟨rfl, id, fun _ => rfl, rfl, rfl⟩
theorem sez : Statement .sez := ⟨rfl, id, fun _ => rfl, rfl, rfl⟩
theorem clz : Statement .clz := ⟨rfl, id, fun _ => rfl, rfl, rfl⟩
theorem sei : Statement .sei := ⟨rfl, id, fun _ => rfl, rfl, rfl⟩
theorem cli : Statement .cli := ⟨rfl, id, fun _ => rfl, rfl, rfl⟩
theorem ses : Statement .ses := ⟨rfl, id, fun _ => rfl, rfl, rfl⟩
theorem cls : Statement .cls := ⟨rfl, id, fun _ => rfl, rfl, rfl⟩
theorem sev : Statement .sev := ⟨rfl, id, fun _ => rfl, rfl, rfl⟩
theorem clv : Statement .clv := ⟨rfl, id, fun _ => rfl, rfl, rfl⟩
theorem set : Statement .set := ⟨rfl, id, fun _ => rfl, rfl, rfl⟩
theorem clt : Statement .clt := ⟨rfl, id, fun _ => rfl, rfl, rfl⟩
theorem seh : Statement .seh := ⟨rfl, id, fun _ => rfl, rfl, rfl⟩
theorem clh : Statement .clh := ⟨rfl, id, fun _ => rfl, rfl, rfl⟩
theorem brk : Statement .brk := ⟨rfl, id, fun _ => rfl, rfl, rfl⟩
theorem nop : Statement .nop := ⟨rfl, id, fun _ => rfl, rfl, rfl⟩
theorem sleep : Statement .sleep := ⟨rfl, id, fun _ => rfl, rfl, rfl⟩
theorem wdr : Statement .wdr := ⟨rfl, id, fun _ => rfl, rfl, rfl⟩

end Sys2Proof.Laws.Canonical
end

