-- ==== Sys2Proof/Laws/Stack.lean ====
section
/-! SUPPORT. The stack in RAM: where SP points after pushes and pops, and the whole effect of pushing and popping a return
address there. -/

namespace Sys2Proof.Machine

variable {s t : State}

/-! ### Numbers -/

/-- A pair as a number. -/
theorem State.pair_toNat (s : State) (i : Reg) : (s.pair i).toNat = (s.r (i + 1)).toNat * 256 + (s.r i).toNat := by
  rw [State.pair, BitVec.toNat_append, Nat.shiftLeft_eq, show (2 : Nat) ^ 8 = 256 from rfl, Nat.mul_comm,
    show (256 : Nat) = 2 ^ 8 from rfl, ← Nat.two_pow_add_eq_or_of_lt (s.r i).isLt]

theorem spSize_dvd {b : Nat} (h : b ≤ 16) : 2 ^ b ∣ 65536 := by
  have := pow_dvd_pow 2 h
  simpa using this

theorem mod_spSize {b n : Nat} (h : b ≤ 16) : n % 65536 % 2 ^ b = n % 2 ^ b := Nat.mod_mod_of_dvd _ (spSize_dvd h)

theorem State.setSp_toNat (h : s.cfg.spBits ≤ 16) (n : Nat) : (s.setSp n).sp.toNat = n % 2 ^ s.cfg.spBits := sp_fits h

theorem State.sp_dec (h : s.Inv) : (s.sp - 1#16).toNat % 2 ^ s.cfg.spBits = s.below 1 := by
  have := h.3
  rw [BitVec.toNat_sub, State.below, mod_spSize h.1.2]
  congr 1
  simp
  omega

theorem State.sp_inc (h : s.cfg.spBits ≤ 16) : (s.sp + 1#16).toNat % 2 ^ s.cfg.spBits = s.above 1 := by
  rw [BitVec.toNat_add, State.above]
  exact mod_spSize h

theorem State.below_zero (h : s.Inv) : s.below 0 = s.sp.toNat := by
  obtain ⟨k, hk⟩ := spSize_dvd h.1.2
  rw [State.below, Nat.sub_zero, show (2 : Nat) ^ 16 = 65536 from rfl, hk, Nat.add_mul_mod_self_left]
  exact Nat.mod_eq_of_lt h.3

/-- The places below a stack pointer that is itself `i` below. -/
theorem State.below_below (h : s.Inv) (hc : t.cfg = s.cfg) {i j : Nat} (hi : i ≤ 100) (hj : j ≤ 100)
    (ht : t.sp.toNat = s.below i) : t.below j = s.below (i + j) := by
  unfold State.below at *
  rw [ht, hc]
  obtain ⟨k, hk⟩ := spSize_dvd h.1.2
  have hb := Nat.two_pow_pos s.cfg.spBits
  generalize 2 ^ s.cfg.spBits = m at *
  rw [show (2 : Nat) ^ 16 = m * k from hk]
  have h1 : (s.sp.toNat + m * k - i) % m ≡ s.sp.toNat + m * k - i [MOD m] := Nat.mod_modEq _ _
  have h2 := Nat.ModEq.add_left (m * k - j) h1
  have h3 : m * k - j + (s.sp.toNat + m * k - i) = s.sp.toNat + m * k - (i + j) + m * k := by omega
  have h4 : s.sp.toNat + m * k - (i + j) + m * k ≡ s.sp.toNat + m * k - (i + j) + 0 [MOD m] :=
    Nat.ModEq.add_left _ (by simp [Nat.ModEq])
  have h5 : (s.sp.toNat + m * k - i) % m + m * k - j = m * k - j + (s.sp.toNat + m * k - i) % m := by omega
  rw [h3] at h2
  rw [h5]
  exact h2.trans h4

/-- The places above a stack pointer that is itself `i` above. -/
theorem State.above_above (hc : t.cfg = s.cfg) {i j : Nat} (ht : t.sp.toNat = s.above i) :
    t.above j = s.above (i + j) := by
  unfold State.above at *
  rw [ht, hc, Nat.mod_add_mod, Nat.add_assoc]

/-- The places above a stack pointer that is itself `i` below. -/
theorem State.above_below (hc : t.cfg = s.cfg) {i j : Nat} (hi : i ≤ 100) (hj : j ≤ i)
    (ht : t.sp.toNat = s.below i) : t.above j = s.below (i - j) := by
  unfold State.above State.below at *
  rw [ht, hc, Nat.mod_add_mod]
  congr 1
  omega

/-- The places that the bytes of one return address go to are apart. -/
theorem State.below_inj (hb : 2 ≤ s.cfg.spBits) {i j : Nat} (hi : i < 4) (hj : j < 4)
    (e : s.below i = s.below j) : i = j := by
  unfold State.below at e
  have h4 : 4 ∣ 2 ^ s.cfg.spBits := by have := pow_dvd_pow 2 hb; simpa using this
  have := congrArg (· % 4) e
  simp only [Nat.mod_mod_of_dvd _ h4] at this
  omega

/-! ### One byte -/

theorem State.push_ram_spec (h : s.Inv) (v : Byte) (hr : dataLoc s.cfg s.sp.toNat = .ram) :
    ∃ t, s.push v = .next t ∧ t.Inv ∧ t.cfg = s.cfg ∧ t.sp.toNat = s.below 1 ∧ t.data = s.data.insert s.sp.toNat v ∧
      t.pc = s.pc ∧ s.OnlyChanges t [.sp, .ram s.sp.toNat] := by
  refine ⟨_, State.push_ram v hr, (h.ramWrite v hr).setSp _, rfl, ?_, rfl, rfl,
    ((State.OnlyChanges.refl _ _).ramWrite (by simp)).setSp (by simp)⟩
  rw [State.setSp_toNat (h.ramWrite v hr).1.2]
  exact State.sp_dec h

theorem State.pop_ram_spec (h : s.cfg.spBits ≤ 16) {v : Byte} (hv : s.Holds 1 v) :
    ∃ t, s.pop = .next (v, t) ∧ t.cfg = s.cfg ∧ t.sp.toNat = s.above 1 ∧ t.data = s.data ∧ t.pc = s.pc ∧
      s.OnlyChanges t [.sp] := by
  have e : (s.setSp (s.sp + 1#16).toNat).sp.toNat = s.above 1 := by rw [State.setSp_toNat h, State.sp_inc h]
  exact ⟨_, State.pop_ram e hv.1 hv.2, rfl, e, rfl, rfl, (State.OnlyChanges.refl _ _).setSp (by simp)⟩

/-! ### A return address -/

theorem Config.retBytes_eq (c : Config) : c.retBytes = 2 ∨ c.retBytes = 3 := by
  unfold Config.retBytes; split <;> simp

/-- PushPC into RAM, in full (20_memory R82). -/
theorem State.pushPc_ram_spec (h : s.Inv) (hr : s.RoomFor s.cfg.retBytes) (a : BitVec 22) :
    ∃ t, s.pushPc a = .next t ∧ t.Inv ∧ t.cfg = s.cfg ∧ t.pc = s.pc ∧
      t.ramByte (s.below 0) = some (BitVec.ofNat 8 a.toNat) ∧
      t.ramByte (s.below 1) = some (BitVec.ofNat 8 (a.toNat / 256)) ∧
      (s.cfg.retBytes = 3 → t.ramByte (s.below 2) = some (BitVec.ofNat 8 (a.toNat / 65536))) ∧
      t.sp.toNat = s.below s.cfg.retBytes ∧
      s.OnlyChanges t (.sp :: (List.range s.cfg.retBytes).map fun j => .ram (s.below j)) := by
  obtain ⟨hb, hr⟩ := hr
  have hn := Config.retBytes_eq s.cfg
  have b0 := State.below_zero h
  obtain ⟨t, e1, i1, c1, s1, d1, p1, o1⟩ := State.push_ram_spec h (a.extractLsb' 0 8) (b0 ▸ hr 0 (by omega))
  obtain ⟨u, e2, i2, c2, s2, d2, p2, o2⟩ :=
    State.push_ram_spec i1 (a.extractLsb' 8 8) (by rw [c1, s1]; exact hr 1 (by omega))
  have s2' : u.sp.toNat = s.below 2 := by rw [s2]; exact State.below_below h c1 (by omega) (by omega) s1
  have n01 : s.below 0 ≠ s.below 1 := fun e => by have := State.below_inj hb (by omega) (by omega) e; omega
  have n02 : s.below 0 ≠ s.below 2 := fun e => by have := State.below_inj hb (by omega) (by omega) e; omega
  have n12 : s.below 1 ≠ s.below 2 := fun e => by have := State.below_inj hb (by omega) (by omega) e; omega
  have ha := a.isLt
  have v0 : a.extractLsb' 0 8 = BitVec.ofNat 8 a.toNat := by
    apply BitVec.eq_of_toNat_eq
    rw [BitVec.extractLsb'_toNat, BitVec.toNat_ofNat, Nat.shiftRight_zero]
  have v1 : a.extractLsb' 8 8 = BitVec.ofNat 8 (a.toNat / 256) := by
    apply BitVec.eq_of_toNat_eq
    rw [BitVec.extractLsb'_toNat, BitVec.toNat_ofNat, Nat.shiftRight_eq_div_pow]
  rw [State.pushPc, e1]
  simp only [andThen]
  rw [e2]
  rcases hn with hn | hn
  · simp only [hn]
    refine ⟨u, by simp, i2, c2.trans c1, p2.trans p1, ?_, ?_, by simp, s2', ?_⟩
    · rw [State.ramByte, d2, d1, Memory.lookup_insert, Memory.lookup_insert, s1, if_neg n01.symm, b0, if_pos rfl, v0]
    · rw [State.ramByte, d2, Memory.lookup_insert, s1, if_pos rfl, v1]
    · refine (o1.mono ?_).trans (o2.mono ?_) <;> rw [show List.range 2 = [0, 1] from rfl]
      · rw [← b0]; simp
      · rw [s1]; simp
  · obtain ⟨v, e3, i3, c3, s3, d3, p3, o3⟩ :=
      State.push_ram_spec i2 (0#2 ++ a.extractLsb' 16 6) (by rw [c2, c1, s2']; exact hr 2 (by omega))
    have s3' : v.sp.toNat = s.below 3 := by
      rw [s3]; exact State.below_below h (c2.trans c1) (by omega) (by omega) s2'
    have v2 : (0#2 ++ a.extractLsb' 16 6 : BitVec 8) = BitVec.ofNat 8 (a.toNat / 65536) := by
      apply BitVec.eq_of_toNat_eq
      rw [BitVec.toNat_append, BitVec.extractLsb'_toNat, BitVec.toNat_ofNat, Nat.shiftRight_eq_div_pow]
      simp
      omega
    simp only [hn]
    refine ⟨v, by simpa using e3, i3, c3.trans (c2.trans c1), p3.trans (p2.trans p1), ?_, ?_, ?_, s3', ?_⟩
    · rw [State.ramByte, d3, d2, d1, Memory.lookup_insert, Memory.lookup_insert, Memory.lookup_insert, s1, s2',
        if_neg n02.symm, if_neg n01.symm, b0, if_pos rfl, v0]
    · rw [State.ramByte, d3, d2, Memory.lookup_insert, Memory.lookup_insert, s2', if_neg n12.symm, s1, if_pos rfl, v1]
    · intro _; rw [State.ramByte, d3, Memory.lookup_insert, s2', if_pos rfl, v2]
    · refine (o1.mono ?_).trans ((o2.mono ?_).trans (o3.mono ?_)) <;> rw [show List.range 3 = [0, 1, 2] from rfl]
      · rw [← b0]; simp
      · rw [s1]; simp
      · rw [s2']; simp

/-- PopPC from RAM, in full (20_memory R83). -/
theorem State.popPc_ram_spec (h : s.cfg.spBits ≤ 16) {ext hi lo : Byte} (h3 : s.cfg.retBytes = 3 → s.Holds 1 ext)
    (h2 : s.Holds (s.cfg.retBytes - 1) hi) (h1 : s.Holds s.cfg.retBytes lo) :
    ∃ t, s.popPc = .next ((if s.cfg.retBytes = 3 then ext.toNat * 65536 else 0) + hi.toNat * 256 + lo.toNat, t) ∧
      t.cfg = s.cfg ∧ t.sp.toNat = s.above s.cfg.retBytes ∧ t.pc = s.pc ∧ s.OnlyChanges t [.sp] := by
  have num : ∀ x y z : Byte, (x ++ y ++ z).toNat = x.toNat * 65536 + y.toNat * 256 + z.toNat := by
    intro x y z
    have := z.isLt
    have := y.isLt
    rw [BitVec.toNat_append, BitVec.toNat_append, Nat.shiftLeft_eq, Nat.shiftLeft_eq, Nat.mul_comm (BitVec.toNat x),
      ← Nat.two_pow_add_eq_or_of_lt y.isLt, Nat.mul_comm, ← Nat.two_pow_add_eq_or_of_lt z.isLt]
    omega
  rcases Config.retBytes_eq s.cfg with hn | hn
  · rw [hn] at h1 h2
    obtain ⟨u, e1, c1, s1, d1, p1, o1⟩ := State.pop_ram_spec h h2
    have h1' : u.Holds 1 lo := by
      unfold State.Holds at *
      rw [State.above_above c1 s1, c1, State.ramByte, d1]; exact h1
    obtain ⟨w, e2, c2, s2, d2, p2, o2⟩ := State.pop_ram_spec (c1 ▸ h) h1'
    rw [State.popPc]
    simp only [hn, andThen, e1, e2, show ¬(2 = 3) by decide, if_false, num]
    refine ⟨w, by simp, c2.trans c1, ?_, p2.trans p1, o1.trans o2⟩
    rw [s2, State.above_above c1 s1]
  · have h0 := h3 hn
    rw [hn] at h1 h2
    obtain ⟨u, e1, c1, s1, d1, p1, o1⟩ := State.pop_ram_spec h h0
    have h2' : u.Holds 1 hi := by
      unfold State.Holds at *
      rw [State.above_above c1 s1, c1, State.ramByte, d1]; exact h2
    obtain ⟨w, e2, c2, s2, d2, p2, o2⟩ := State.pop_ram_spec (c1 ▸ h) h2'
    have s2' : w.sp.toNat = s.above 2 := by rw [s2, State.above_above c1 s1]
    have h1' : w.Holds 1 lo := by
      unfold State.Holds at *
      rw [State.above_above (c2.trans c1) s2', c2, c1, State.ramByte, d2, d1]; exact h1
    obtain ⟨x, e3, c3, s3, d3, p3, o3⟩ := State.pop_ram_spec (c2 ▸ c1 ▸ h) h1'
    rw [State.popPc]
    simp only [hn, andThen, e1, e2, e3, if_true, num]
    refine ⟨x, rfl, c3.trans (c2.trans c1), ?_, p3.trans (p2.trans p1), o1.trans (o2.trans o3)⟩
    rw [s3, State.above_above (c2.trans c1) s2']

/-! ### A stack anywhere: the bytes one after the other (20_memory R84) -/

/-- SP's field holds 16 bits, whatever SP_BITS. -/
theorem ofNat_mod_spBits (x b : Nat) : BitVec.ofNat 16 (x % 65536 % 2 ^ b) = BitVec.ofNat 16 (x % 2 ^ b) := by
  rcases Nat.le_total b 16 with h | h
  · rw [Nat.mod_mod_of_dvd _ (show 2 ^ b ∣ 65536 from spSize_dvd h)]
  · have hd : 65536 ∣ 2 ^ b := pow_dvd_pow 2 h
    have hx : x % 65536 < 2 ^ b := (Nat.mod_lt _ (by decide)).trans_le (Nat.le_of_dvd (Nat.two_pow_pos b) hd)
    apply BitVec.eq_of_toNat_eq
    rw [Nat.mod_eq_of_lt hx, BitVec.toNat_ofNat, BitVec.toNat_ofNat]
    show x % 65536 % 65536 = x % 2 ^ b % 65536
    rw [Nat.mod_mod, Nat.mod_mod_of_dvd _ hd]

theorem andThen_assoc {α β γ : Type} (o : Res α) (f : α → Res β) (g : β → Res γ) :
    andThen (andThen o f) g = andThen o fun a => andThen (f a) g := by
  cases o <;> rfl

theorem andThen_ret {α : Type} (o : Res α) : andThen o .next = o := by cases o <;> rfl

theorem State.popBytes_zero (s : State) : s.popBytes 0 = .next ([], s) := rfl

theorem State.pushBytes_cons (s : State) (v : Byte) (vs : List Byte) :
    s.pushBytes (v :: vs) = andThen (s.push v) fun t => t.pushBytes vs := by
  rw [State.push, andThen_assoc, State.pushBytes]
  congr 1
  funext u
  have e : (u.sp - 1#16).toNat = (u.sp.toNat + 2 ^ 16 - 1) % 65536 := by
    rw [BitVec.toNat_sub]; simp; omega
  simp only [andThen, State.setSp, e, ofNat_mod_spBits]

theorem State.popBytes_succ (s : State) (n : Nat) :
    s.popBytes (n + 1) = andThen s.pop fun p => andThen (p.2.popBytes n) fun q => .next (p.1 :: q.1, q.2) := by
  have e : s.setSp (s.sp + 1#16).toNat = { s with sp := BitVec.ofNat 16 ((s.sp.toNat + 1) % 2 ^ s.cfg.spBits) } := by
    simp only [State.setSp]
    congr 1
    rw [BitVec.toNat_add]
    exact ofNat_mod_spBits _ _
  rw [State.pop, State.popBytes]
  simp only [e]

/-- PushPC is its bytes, pushed one after the other. -/
theorem State.pushPc_eq (s : State) (a : BitVec 22) : s.pushPc a = s.pushBytes (Config.returnBytes s.cfg a.toNat) := by
  have e0 : a.extractLsb' 0 8 = BitVec.ofNat 8 (a.toNat / 256 ^ 0) := by
    apply BitVec.eq_of_toNat_eq; simp [BitVec.extractLsb'_toNat]
  have e1 : a.extractLsb' 8 8 = BitVec.ofNat 8 (a.toNat / 256 ^ 1) := by
    apply BitVec.eq_of_toNat_eq; simp [BitVec.extractLsb'_toNat, Nat.shiftRight_eq_div_pow]
  have e2 : (0#2 ++ a.extractLsb' 16 6 : BitVec 8) = BitVec.ofNat 8 (a.toNat / 256 ^ 2) := by
    have h := a.isLt
    apply BitVec.eq_of_toNat_eq
    rw [BitVec.toNat_append, BitVec.extractLsb'_toNat, Nat.shiftRight_eq_div_pow, BitVec.toNat_ofNat]
    simp only [BitVec.toNat_ofNat, Nat.zero_mod, Nat.zero_shiftLeft, Nat.zero_or]
    omega
  rcases Config.retBytes_eq s.cfg with h | h
  · have r : Config.returnBytes s.cfg a.toNat = [a.extractLsb' 0 8, a.extractLsb' 8 8] := by
      rw [e0, e1, Config.returnBytes, h]; rfl
    rw [r, State.pushPc, State.pushBytes_cons]
    simp only [State.pushBytes_cons, h]
    rfl
  · have r : Config.returnBytes s.cfg a.toNat = [a.extractLsb' 0 8, a.extractLsb' 8 8, 0#2 ++ a.extractLsb' 16 6] := by
      rw [e0, e1, e2, Config.returnBytes, h]; rfl
    rw [r, State.pushPc, State.pushBytes_cons]
    simp only [State.pushBytes_cons, h, if_true]
    congr 1
    funext t
    congr 1
    funext u
    exact (andThen_ret _).symm

/-- PopPC is its bytes, popped one after the other, most significant first. -/
theorem State.popPc_eq (s : State) :
    s.popPc = andThen (s.popBytes s.cfg.retBytes) fun p => .next (bigEndian p.1, p.2) := by
  have be : ∀ x y z : Byte, (x ++ y ++ z).toNat = bigEndian [x, y, z] := by
    intro x y z
    have hy := y.isLt
    have hz := z.isLt
    rw [BitVec.toNat_append, BitVec.toNat_append, ← Nat.shiftLeft_add_eq_or_of_lt hz,
      ← Nat.shiftLeft_add_eq_or_of_lt hy, Nat.shiftLeft_eq, Nat.shiftLeft_eq]
    simp [bigEndian]
  have be2 : ∀ y z : Byte, (0#8 ++ y ++ z).toNat = bigEndian [y, z] := by
    intro y z; rw [be]; simp [bigEndian]
  rcases Config.retBytes_eq s.cfg with h | h
  · simp only [State.popPc, h, State.popBytes_succ, andThen_assoc, State.popBytes_zero, show ¬2 = 3 by decide, if_false]
    simp only [andThen, be2]
  · simp only [State.popPc, h, State.popBytes_succ, andThen_assoc, State.popBytes_zero, if_true]
    simp only [andThen, be]

end Sys2Proof.Machine
end

