-- ==== Sys2Proof/Tests/Slice0.lean ====
section
/-! SUPPORT. The model's own tests. Expected values are the spec's: the example of the instruction's rule or a row of
spec/95_test_vectors.md. Then, for every statement with hypotheses, a state and operands that meet them. -/

open Sys2Proof Sys2Proof.Machine

namespace Sys2Proof.Tests

/-! ### Helpers -/

/-- The reset state with these registers and this SREG. -/
def mk (regs : List (Reg × Byte)) (sr : Byte) : State :=
  regs.foldl (fun s p => s.setR p.1 p.2) { State.reset with sreg := sr }

/-- The answer is a next state of which `p` holds. -/
def gives (o : Res State) (p : State → Bool) : Bool :=
  match o with
  | .next t => p t
  | .fault _ => false
  | .refused _ => false

/-- The answer is this fault. -/
def faults (o : Res State) (f : Fault) : Bool :=
  match o with
  | .next _ => false
  | .fault g => g == f
  | .refused _ => false

/-- The answer is this refusal. -/
def refuses (o : Res State) (r : Refusal) : Bool :=
  match o with
  | .next _ => false
  | .fault _ => false
  | .refused q => q == r

/-! ### WellFormed: each check refuses an ill-formed term -/

theorem test_ill_adiw : Instr.wellFormed (.adiw 25 1) = false := by decide
theorem test_ill_adiw_low : Instr.wellFormed (.adiw 22 1) = false := by decide
theorem test_ill_sbiw : Instr.wellFormed (.sbiw 23 1) = false := by decide
theorem test_ill_subi : Instr.wellFormed (.subi 15 1) = false := by decide
theorem test_ill_sbci : Instr.wellFormed (.sbci 0 1) = false := by decide
theorem test_ill_andi : Instr.wellFormed (.andi 15 1) = false := by decide
theorem test_ill_ori : Instr.wellFormed (.ori 15 1) = false := by decide
theorem test_ill_sbr : Instr.wellFormed (.sbr 15 1) = false := by decide
theorem test_ill_cbr : Instr.wellFormed (.cbr 15 1) = false := by decide
theorem test_ill_cpi : Instr.wellFormed (.cpi 15 1) = false := by decide
theorem test_ill_ldi : Instr.wellFormed (.ldi 15 1) = false := by decide
theorem test_ill_ser : Instr.wellFormed (.ser 15) = false := by decide
theorem test_ill_muls_d : Instr.wellFormed (.muls 15 16) = false := by decide
theorem test_ill_muls_r : Instr.wellFormed (.muls 16 15) = false := by decide
theorem test_ill_mulsu_d : Instr.wellFormed (.mulsu 24 16) = false := by decide
theorem test_ill_mulsu_r : Instr.wellFormed (.mulsu 16 15) = false := by decide
theorem test_ill_fmul_d : Instr.wellFormed (.fmul 24 16) = false := by decide
theorem test_ill_fmul_r : Instr.wellFormed (.fmul 16 24) = false := by decide
theorem test_ill_fmuls_d : Instr.wellFormed (.fmuls 15 16) = false := by decide
theorem test_ill_fmuls_r : Instr.wellFormed (.fmuls 16 24) = false := by decide
theorem test_ill_fmulsu_d : Instr.wellFormed (.fmulsu 24 16) = false := by decide
theorem test_ill_fmulsu_r : Instr.wellFormed (.fmulsu 16 24) = false := by decide
theorem test_ill_movw_d : Instr.wellFormed (.movw 1 2) = false := by decide
theorem test_ill_movw_r : Instr.wellFormed (.movw 2 3) = false := by decide
theorem test_ill_lddY : Instr.wellFormed (.lddY 0 0) = false := by decide
theorem test_ill_lddZ : Instr.wellFormed (.lddZ 0 0) = false := by decide
theorem test_ill_stdY : Instr.wellFormed (.stdY 0 0) = false := by decide
theorem test_ill_stdZ : Instr.wellFormed (.stdZ 0 0) = false := by decide
theorem test_ill_ldsRc_d : Instr.wellFormed (.ldsRc 15 0x40) = false := by decide
theorem test_ill_ldsRc_low : Instr.wellFormed (.ldsRc 16 0x3F) = false := by decide
theorem test_ill_ldsRc_high : Instr.wellFormed (.ldsRc 16 0xC0) = false := by decide
theorem test_ill_stsRc_r : Instr.wellFormed (.stsRc 0x40 15) = false := by decide
theorem test_ill_stsRc_low : Instr.wellFormed (.stsRc 0x3F 16) = false := by decide
theorem test_ill_stsRc_high : Instr.wellFormed (.stsRc 0xC0 16) = false := by decide

/-! ### Decoding: for every constructor a word written out from the spec -/

theorem test_decode_add_sub :
    decode .avrxt 0x0C12#16 0#16 = .ok (.add 1 2) ∧
    decode .avrxt 0x0E0F#16 0#16 = .ok (.add 0 31) ∧
    decode .avrxt 0x1C31#16 0#16 = .ok (.adc 3 1) ∧
    decode .avrxt 0x96FF#16 0#16 = .ok (.adiw 30 63) ∧
    decode .avrxt 0x9611#16 0#16 = .ok (.adiw 26 1) ∧
    decode .avrxt 0x1B01#16 0#16 = .ok (.sub 16 17) ∧
    decode .avrxt 0x5F0F#16 0#16 = .ok (.subi 16 0xFF) ∧
    decode .avrxt 0x0831#16 0#16 = .ok (.sbc 3 1) ∧
    decode .avrxt 0x4F1F#16 0#16 = .ok (.sbci 17 0xFF) ∧
    decode .avrxt 0x97EF#16 0#16 = .ok (.sbiw 28 0x3F) ∧
    decode .avrxt 0x9721#16 0#16 = .ok (.sbiw 28 1) := by
  decide

theorem test_decode_logic :
    decode .avrxt 0x2220#16 0#16 = .ok (.and 2 16) ∧
    decode .avrxt 0x7A3A#16 0#16 = .ok (.andi 19 0xAA) ∧
    decode .avrxt 0x2823#16 0#16 = .ok (.or 2 3) ∧
    decode .avrxt 0x6800#16 0#16 = .ok (.ori 16 0x80) ∧
    decode .avrxt 0x2445#16 0#16 = .ok (.eor 4 5) ∧
    decode .avrxt 0x9440#16 0#16 = .ok (.com 4) ∧
    decode .avrxt 0x94B1#16 0#16 = .ok (.neg 11) ∧
    decode .avrxt 0x9563#16 0#16 = .ok (.inc 22) ∧
    decode .avrxt 0x951A#16 0#16 = .ok (.dec 17) := by
  decide

theorem test_decode_multiply_des :
    decode .avrxt 0x9C54#16 0#16 = .ok (.mul 5 4) ∧
    decode .avrxt 0x0254#16 0#16 = .ok (.muls 21 20) ∧
    decode .avrxt 0x0354#16 0#16 = .ok (.mulsu 21 20) ∧
    decode .avrxt 0x037E#16 0#16 = .ok (.fmul 23 22) ∧
    decode .avrxt 0x03F6#16 0#16 = .ok (.fmuls 23 22) ∧
    decode .avrxt 0x03FE#16 0#16 = .ok (.fmulsu 23 22) ∧
    decode .avrxt 0x94FB#16 0#16 = .ok (.des 15) ∧
    decode .avrxt 0x943B#16 0#16 = .ok (.des 3) := by
  decide

theorem test_decode_jumps_calls :
    decode .avrxt 0xCFFF#16 0#16 = .ok (.rjmp 0xFFF) ∧
    decode .avrxt 0x9409#16 0#16 = .ok (.ijmp) ∧
    decode .avrxt 0x9419#16 0#16 = .ok (.eijmp) ∧
    decode .avrxt 0x940D#16 0x2345#16 = .ok (.jmp 0x012345) ∧
    decode .avrxt 0x95FD#16 0x1234#16 = .ok (.jmp 0x3F1234) ∧
    decode .avrxt 0xD005#16 0#16 = .ok (.rcall 5) ∧
    decode .avrxt 0x9509#16 0#16 = .ok (.icall) ∧
    decode .avrxt 0x9519#16 0#16 = .ok (.eicall) ∧
    decode .avrxt 0x940E#16 0x2000#16 = .ok (.call 0x002000) ∧
    decode .avrxt 0x9508#16 0#16 = .ok (.ret) ∧
    decode .avrxt 0x9518#16 0#16 = .ok (.reti) := by
  decide

theorem test_decode_compare_skip :
    decode .avrxt 0x1040#16 0#16 = .ok (.cpse 4 0) ∧
    decode .avrxt 0x14BC#16 0#16 = .ok (.cp 11 12) ∧
    decode .avrxt 0x0431#16 0#16 = .ok (.cpc 3 1) ∧
    decode .avrxt 0x3045#16 0#16 = .ok (.cpi 20 5) ∧
    decode .avrxt 0xFC07#16 0#16 = .ok (.sbrc 0 7) ∧
    decode .avrxt 0xFFF0#16 0#16 = .ok (.sbrs 31 0) ∧
    decode .avrxt 0x99FF#16 0#16 = .ok (.sbic 0x1F 7) ∧
    decode .avrxt 0x9B00#16 0#16 = .ok (.sbis 0 0) ∧
    decode .avrxt 0xF201#16 0#16 = .ok (.brbs 1 0x40) ∧
    decode .avrxt 0xF1FF#16 0#16 = .ok (.brbs 7 63) ∧
    decode .avrxt 0xF5F9#16 0#16 = .ok (.brbc 1 63) ∧
    decode .avrxt 0xF601#16 0#16 = .ok (.brbc 1 0x40) := by
  decide

theorem test_decode_loads :
    decode .avrxt 0x2D00#16 0#16 = .ok (.mov 16 0) ∧
    decode .avrxt 0x018F#16 0#16 = .ok (.movw 16 30) ∧
    decode .avrxt 0xE001#16 0#16 = .ok (.ldi 16 1) ∧
    decode .avrxt 0x9020#16 0x4000#16 = .ok (.lds 2 0x4000) ∧
    decode .avrxt 0x91FC#16 0#16 = .ok (.ldX 31) ∧
    decode .avrxt 0x900D#16 0#16 = .ok (.ldXInc 0) ∧
    decode .avrxt 0x900E#16 0#16 = .ok (.ldXDec 0) ∧
    decode .avrxt 0x8008#16 0#16 = .ok (.ldY 0) ∧
    decode .avrxt 0x9059#16 0#16 = .ok (.ldYInc 5) ∧
    decode .avrxt 0x900A#16 0#16 = .ok (.ldYDec 0) ∧
    decode .avrxt 0x804A#16 0#16 = .ok (.lddY 4 2) ∧
    decode .avrxt 0xAC4F#16 0#16 = .ok (.lddY 4 63) ∧
    decode .avrxt 0x8000#16 0#16 = .ok (.ldZ 0) ∧
    decode .avrxt 0x9001#16 0#16 = .ok (.ldZInc 0) ∧
    decode .avrxt 0x9052#16 0#16 = .ok (.ldZDec 5) ∧
    decode .avrxt 0xA040#16 0#16 = .ok (.lddZ 4 32) ∧
    decode .avrxt 0xAC47#16 0#16 = .ok (.lddZ 4 63) := by
  decide

theorem test_decode_stores :
    decode .avrxt 0x9220#16 0x4001#16 = .ok (.sts 0x4001 2) ∧
    decode .avrxt 0x921C#16 0#16 = .ok (.stX 1) ∧
    decode .avrxt 0x921D#16 0#16 = .ok (.stXInc 1) ∧
    decode .avrxt 0x93FE#16 0#16 = .ok (.stXDec 31) ∧
    decode .avrxt 0x8218#16 0#16 = .ok (.stY 1) ∧
    decode .avrxt 0x9219#16 0#16 = .ok (.stYInc 1) ∧
    decode .avrxt 0x921A#16 0#16 = .ok (.stYDec 1) ∧
    decode .avrxt 0x825A#16 0#16 = .ok (.stdY 2 5) ∧
    decode .avrxt 0x83C9#16 0#16 = .ok (.stdY 1 28) ∧
    decode .avrxt 0x8210#16 0#16 = .ok (.stZ 1) ∧
    decode .avrxt 0x9211#16 0#16 = .ok (.stZInc 1) ∧
    decode .avrxt 0x9212#16 0#16 = .ok (.stZDec 1) ∧
    decode .avrxt 0xAE57#16 0#16 = .ok (.stdZ 63 5) ∧
    decode .avrxt 0xA211#16 0#16 = .ok (.stdZ 33 1) := by
  decide

theorem test_decode_program_io_stack :
    decode .avrxt 0x95C8#16 0#16 = .ok (.lpmR0) ∧
    decode .avrxt 0x9104#16 0#16 = .ok (.lpmZ 16) ∧
    decode .avrxt 0x9105#16 0#16 = .ok (.lpmZInc 16) ∧
    decode .avrxt 0x95D8#16 0#16 = .ok (.elpmR0) ∧
    decode .avrxt 0x9106#16 0#16 = .ok (.elpmZ 16) ∧
    decode .avrxt 0x9107#16 0#16 = .ok (.elpmZInc 16) ∧
    decode .avrxt 0x95E8#16 0#16 = .ok (.spm) ∧
    decode .avrxt 0x95F8#16 0#16 = .ok (.spmZInc) ∧
    decode .avrxt 0xB79F#16 0#16 = .ok (.inIo 25 0x3F) ∧
    decode .avrxt 0xBF0E#16 0#16 = .ok (.out 0x3E 16) ∧
    decode .avrxt 0x92EF#16 0#16 = .ok (.push 14) ∧
    decode .avrxt 0x90DF#16 0#16 = .ok (.pop 13) ∧
    decode .avrxt 0x9214#16 0#16 = .ok (.xch 1) ∧
    decode .avrxt 0x9225#16 0#16 = .ok (.las 2) ∧
    decode .avrxt 0x9236#16 0#16 = .ok (.lac 3) ∧
    decode .avrxt 0x9247#16 0#16 = .ok (.lat 4) := by
  decide

theorem test_decode_bits_mcu :
    decode .avrxt 0x9506#16 0#16 = .ok (.lsr 16) ∧
    decode .avrxt 0x9507#16 0#16 = .ok (.ror 16) ∧
    decode .avrxt 0x9515#16 0#16 = .ok (.asr 17) ∧
    decode .avrxt 0x9452#16 0#16 = .ok (.swap 5) ∧
    decode .avrxt 0x9A28#16 0#16 = .ok (.sbi 5 0) ∧
    decode .avrxt 0x982C#16 0#16 = .ok (.cbi 5 4) ∧
    decode .avrxt 0xFA35#16 0#16 = .ok (.bst 3 5) ∧
    decode .avrxt 0xF9F7#16 0#16 = .ok (.bld 31 7) ∧
    decode .avrxt 0x9468#16 0#16 = .ok (.bset 6) ∧
    decode .avrxt 0x94F8#16 0#16 = .ok (.bclr 7) ∧
    decode .avrxt 0x9598#16 0#16 = .ok (.brk) ∧
    decode .avrxt 0x0000#16 0#16 = .ok (.nop) ∧
    decode .avrxt 0x9588#16 0#16 = .ok (.sleep) ∧
    decode .avrxt 0x95A8#16 0#16 = .ok (.wdr) := by
  decide

theorem test_decode_reduced_core :
    decode .avrrc 0xA100#16 0#16 = .ok (.ldsRc 16 0x40) ∧
    decode .avrrc 0xA000#16 0#16 = .ok (.ldsRc 16 0x80) ∧
    decode .avrrc 0xA900#16 0#16 = .ok (.stsRc 0x40 16) ∧
    decode .avrrc 0xAF0F#16 0#16 = .ok (.stsRc 0x7F 16) := by
  decide

/-- An alias has its own word, and the word reads as the canonical instruction (R115). -/
def aliasOk (i : Instr) (w : Word) (c : Instr) : Bool :=
  encodeFirst i == w && i.canonical == c && (match decode .avrxt w 0#16 with | .ok j => j == c | .error _ => false)

theorem test_decode_aliases_arith :
    aliasOk (.lsl 16) 0x0F00#16 (.add 16 16) = true ∧
    aliasOk (.rol 19) 0x1F33#16 (.adc 19 19) = true ∧
    aliasOk (.tst 0) 0x2000#16 (.and 0 0) = true ∧
    aliasOk (.clr 4) 0x2444#16 (.eor 4 4) = true ∧
    aliasOk (.ser 16) 0xEF0F#16 (.ldi 16 0xFF) = true ∧
    aliasOk (.sbr 16 3) 0x6003#16 (.ori 16 3) = true ∧
    aliasOk (.cbr 16 0xF0) 0x700F#16 (.andi 16 0x0F) = true ∧
    aliasOk (.cbr 20 0x81) 0x774E#16 (.andi 20 0x7E) = true := by
  decide

theorem test_decode_aliases_branches :
    aliasOk (.breq 1) 0xF009#16 (.brbs 1 1) = true ∧
    aliasOk (.brne 1) 0xF409#16 (.brbc 1 1) = true ∧
    aliasOk (.brcs 1) 0xF008#16 (.brbs 0 1) = true ∧
    aliasOk (.brcc 1) 0xF408#16 (.brbc 0 1) = true ∧
    aliasOk (.brsh 1) 0xF408#16 (.brbc 0 1) = true ∧
    aliasOk (.brlo 1) 0xF008#16 (.brbs 0 1) = true ∧
    aliasOk (.brmi 1) 0xF00A#16 (.brbs 2 1) = true ∧
    aliasOk (.brpl 1) 0xF40A#16 (.brbc 2 1) = true ∧
    aliasOk (.brge 1) 0xF40C#16 (.brbc 4 1) = true ∧
    aliasOk (.brlt 1) 0xF00C#16 (.brbs 4 1) = true ∧
    aliasOk (.brhs 1) 0xF00D#16 (.brbs 5 1) = true ∧
    aliasOk (.brhc 1) 0xF40D#16 (.brbc 5 1) = true ∧
    aliasOk (.brts 1) 0xF00E#16 (.brbs 6 1) = true ∧
    aliasOk (.brtc 1) 0xF40E#16 (.brbc 6 1) = true ∧
    aliasOk (.brvs 1) 0xF00B#16 (.brbs 3 1) = true ∧
    aliasOk (.brvc 1) 0xF40B#16 (.brbc 3 1) = true ∧
    aliasOk (.brie 1) 0xF00F#16 (.brbs 7 1) = true ∧
    aliasOk (.brid 1) 0xF40F#16 (.brbc 7 1) = true := by
  decide

theorem test_decode_aliases_flags :
    aliasOk .sec 0x9408#16 (.bset 0) = true ∧
    aliasOk .clc 0x9488#16 (.bclr 0) = true ∧
    aliasOk .sez 0x9418#16 (.bset 1) = true ∧
    aliasOk .clz 0x9498#16 (.bclr 1) = true ∧
    aliasOk .sen 0x9428#16 (.bset 2) = true ∧
    aliasOk .cln 0x94A8#16 (.bclr 2) = true ∧
    aliasOk .sev 0x9438#16 (.bset 3) = true ∧
    aliasOk .clv 0x94B8#16 (.bclr 3) = true ∧
    aliasOk .ses 0x9448#16 (.bset 4) = true ∧
    aliasOk .cls 0x94C8#16 (.bclr 4) = true ∧
    aliasOk .seh 0x9458#16 (.bset 5) = true ∧
    aliasOk .clh 0x94D8#16 (.bclr 5) = true ∧
    aliasOk .set 0x9468#16 (.bset 6) = true ∧
    aliasOk .clt 0x94E8#16 (.bclr 6) = true ∧
    aliasOk .sei 0x9478#16 (.bset 7) = true ∧
    aliasOk .cli 0x94F8#16 (.bclr 7) = true := by
  decide

/-- Reserved words of R120, and on AVRrc of R118 and R119. -/
theorem test_reserved_words :
    decode .avrxt 0xFFFF#16 0#16 = .error (.reservedWord 0xFFFF#16) ∧
    decode .avrxt 0x0001#16 0#16 = .error (.reservedWord 0x0001#16) ∧
    decode .avrxt 0x9003#16 0#16 = .error (.reservedWord 0x9003#16) ∧
    decode .avrxt 0x9404#16 0#16 = .error (.reservedWord 0x9404#16) ∧
    decode .avrxt 0x95B8#16 0#16 = .error (.reservedWord 0x95B8#16) ∧
    decode .avrxt 0xF808#16 0#16 = .error (.reservedWord 0xF808#16) ∧
    decode .avrrc 0x804A#16 0#16 = .error (.reservedWord 0x804A#16) ∧
    decode .avrrc 0x0C12#16 0#16 = .error (.lowRegister 0x0C12#16) := by
  decide

/-- The words of the opcode table's numbering: the second word counts on from bit 16. -/
theorem test_table_words :
    decodeTableWord 16 0x0C12 = some (.add 1 2) ∧ decodeTableWord 32 0x2345940D = some (.jmp 0x012345) ∧
    decodeTableWord 16 0x940E = some (.call 0) ∧ decodeTableWord 16 0xFFFF = none := by
  decide

/-- 30_encoding R103, 20_memory R62: the words of JMP and their bytes. -/
theorem test_encode_jmp : encode (.jmp 0x012345) = [0x940D#16, 0x2345#16] ∧
    encodeBytes (.jmp 0x012345) = [0x0D#8, 0x94#8, 0x45#8, 0x23#8] := by decide

theorem test_length : instrLen .avrxt 0x9020#16 = 2 ∧ instrLen .avrxt 0x9200#16 = 2 ∧ instrLen .avrxt 0x95FD#16 = 2 ∧
    instrLen .avrxt 0x940E#16 = 2 ∧ instrLen .avrxt 0x9509#16 = 1 ∧ instrLen .avrrc 0x940E#16 = 1 := by decide

/-! ### One step of each instruction -/

/-- An AVRrc device with RAM at 0x40 (R266 reaches 0x40 to 0xBF). -/
def rcCfg : Config := { avr128da64 with core := .avrrc, ptrWidth := .w16, regions := [⟨0x40, 0xBF, .ram⟩] }

-- addition and subtraction (40_arithmetic_logic; 95 §1.2, §2.1)
theorem test_add : gives (exec (.add 28 28) (mk [(28, 0x80)] 0x00)) (fun t =>
    t.r 28 == 0x00 && t.sreg == 0x1B) = true := by decide
theorem test_adc : gives (exec (.adc 5 6) (mk [(5, 0xFF), (6, 0x00)] 0x01)) (fun t =>
    t.r 5 == 0x00 && t.sreg == 0x23) = true := by decide
theorem test_adc_2 : gives (exec (.adc 5 6) (mk [(5, 0x0F), (6, 0x00)] 0x01)) (fun t =>
    t.r 5 == 0x10 && t.sreg == 0x20) = true := by decide
theorem test_adiw : gives (exec (.adiw 26 1) (mk [(26, 0xFF), (27, 0x7F)] 0x00)) (fun t =>
    t.pair 26 == 0x8000 && t.sreg == 0x0C) = true := by decide
theorem test_sub : gives (exec (.sub 16 17) (mk [(16, 0x80), (17, 0x01)] 0x00)) (fun t =>
    t.r 16 == 0x7F && t.sreg == 0x38) = true := by decide
theorem test_sub_2 : gives (exec (.sub 16 17) (mk [(16, 0x55), (17, 0x55)] 0xFF)) (fun t =>
    t.r 16 == 0x00 && t.sreg == 0xC2) = true := by decide
theorem test_subi : gives (exec (.subi 16 0xFF) (mk [(16, 0x7F)] 0x00)) (fun t =>
    t.r 16 == 0x80 && t.sreg == 0x0D) = true := by decide
theorem test_subi_2 : gives (exec (.subi 18 4) (mk [(18, 0x02)] 0x00)) (fun t =>
    t.r 18 == 0xFE && t.sreg == 0x35) = true := by decide
theorem test_sbc : gives (exec (.sbc 4 5) (mk [(4, 0x01), (5, 0x00)] 0x01)) (fun t =>
    t.r 4 == 0x00 && t.sreg == 0x00) = true := by decide
theorem test_sbc_2 : gives (exec (.sbc 4 5) (mk [(4, 0x00), (5, 0x00)] 0x03)) (fun t =>
    t.r 4 == 0xFF && t.sreg == 0x35) = true := by decide
theorem test_sbci : gives (exec (.sbci 17 0xFF) (mk [(17, 0x00)] 0x01)) (fun t =>
    t.r 17 == 0x00 && t.sreg == 0x21) = true := by decide
theorem test_sbci_2 : gives (exec (.sbci 17 0x10) (mk [(17, 0x10)] 0x02)) (fun t =>
    t.r 17 == 0x00 && t.sreg == 0x02) = true := by decide
theorem test_sbiw : gives (exec (.sbiw 26 1) (mk [(26, 0x00), (27, 0x80)] 0x00)) (fun t =>
    t.pair 26 == 0x7FFF && t.sreg == 0x18) = true := by decide
theorem test_sbiw_2 : gives (exec (.sbiw 24 1) (mk [(24, 0x00), (25, 0x00)] 0x00)) (fun t =>
    t.pair 24 == 0xFFFF && t.sreg == 0x15) = true := by decide

-- logic (95 §1.2, §2.2)
theorem test_and : gives (exec (.and 2 3) (mk [(2, 0xF5), (3, 0x3C)] 0x08)) (fun t =>
    t.r 2 == 0x34 && t.sreg == 0x00) = true := by decide
theorem test_and_2 : gives (exec (.and 2 3) (mk [(2, 0xF0), (3, 0x8F)] 0x09)) (fun t =>
    t.r 2 == 0x80 && t.sreg == 0x15) = true := by decide
theorem test_andi : gives (exec (.andi 18 0x10) (mk [(18, 0xEF)] 0x00)) (fun t =>
    t.r 18 == 0x00 && t.sreg == 0x02) = true := by decide
theorem test_andi_2 : gives (exec (.andi 19 0xAA) (mk [(19, 0xFF)] 0x00)) (fun t =>
    t.r 19 == 0xAA && t.sreg == 0x14) = true := by decide
theorem test_or : gives (exec (.or 1 2) (mk [(1, 0x0F), (2, 0x80)] 0x09)) (fun t =>
    t.r 1 == 0x8F && t.sreg == 0x15) = true := by decide
theorem test_ori : gives (exec (.ori 16 0) (mk [(16, 0x00)] 0x01)) (fun t =>
    t.r 16 == 0x00 && t.sreg == 0x03) = true := by decide
theorem test_eor : gives (exec (.eor 1 2) (mk [(1, 0xFF), (2, 0x0F)] 0x00)) (fun t =>
    t.r 1 == 0xF0 && t.sreg == 0x14) = true := by decide
theorem test_com : gives (exec (.com 8) (mk [(8, 0xA5)] 0x08)) (fun t =>
    t.r 8 == 0x5A && t.sreg == 0x01) = true := by decide
theorem test_com_2 : gives (exec (.com 8) (mk [(8, 0xFF)] 0x00)) (fun t =>
    t.r 8 == 0x00 && t.sreg == 0x03) = true := by decide
theorem test_neg : gives (exec (.neg 9) (mk [(9, 0x80)] 0x00)) (fun t =>
    t.r 9 == 0x80 && t.sreg == 0x0D) = true := by decide
theorem test_neg_2 : gives (exec (.neg 9) (mk [(9, 0x10)] 0x00)) (fun t =>
    t.r 9 == 0xF0 && t.sreg == 0x15) = true := by decide
theorem test_sbr : gives (exec (.sbr 20 0x81) (mk [(20, 0x10)] 0x00)) (fun t =>
    t.r 20 == 0x91 && t.sreg == 0x14) = true := by decide
theorem test_cbr : gives (exec (.cbr 20 0x81) (mk [(20, 0xFF)] 0x00)) (fun t =>
    t.r 20 == 0x7E && t.sreg == 0x00) = true := by decide
theorem test_inc : gives (exec (.inc 7) (mk [(7, 0x7F)] 0x01)) (fun t =>
    t.r 7 == 0x80 && t.sreg == 0x0D) = true := by decide
theorem test_inc_2 : gives (exec (.inc 7) (mk [(7, 0xFF)] 0x00)) (fun t =>
    t.r 7 == 0x00 && t.sreg == 0x02) = true := by decide
theorem test_dec : gives (exec (.dec 7) (mk [(7, 0x80)] 0x01)) (fun t =>
    t.r 7 == 0x7F && t.sreg == 0x19) = true := by decide
theorem test_dec_2 : gives (exec (.dec 7) (mk [(7, 0x00)] 0x00)) (fun t =>
    t.r 7 == 0xFF && t.sreg == 0x14) = true := by decide
theorem test_tst : gives (exec (.tst 3) (mk [(3, 0x80)] 0x0B)) (fun t =>
    t.r 3 == 0x80 && t.sreg == 0x15) = true := by decide
theorem test_clr : gives (exec (.clr 4) (mk [(4, 0x5A)] 0xFF)) (fun t =>
    t.r 4 == 0x00 && t.sreg == 0xE3) = true := by decide
theorem test_ser : gives (exec (.ser 31) (mk [] 0x55)) (fun t =>
    t.r 31 == 0xFF && t.sreg == 0x55) = true := by decide

-- multiplication (95 §2.3); DES with its free round leaves the flags and R16 and goes on
theorem test_mul : gives (exec (.mul 2 3) (mk [(2, 0xFF), (3, 0xFF)] 0x00)) (fun t =>
    t.pair 0 == 0xFE01 && t.sreg == 0x01) = true := by decide
theorem test_mul_2 : gives (exec (.mul 0 1) (mk [(0, 0x03), (1, 0x05)] 0x00)) (fun t =>
    t.pair 0 == 0x000F && t.sreg == 0x00) = true := by decide
theorem test_muls : gives (exec (.muls 16 17) (mk [(16, 0x80), (17, 0x7F)] 0x00)) (fun t =>
    t.pair 0 == 0xC080 && t.sreg == 0x01) = true := by decide
theorem test_mulsu : gives (exec (.mulsu 16 17) (mk [(16, 0xFF), (17, 0xFF)] 0x00)) (fun t =>
    t.pair 0 == 0xFF01 && t.sreg == 0x01) = true := by decide
theorem test_mulsu_2 : gives (exec (.mulsu 16 17) (mk [(16, 0x7F), (17, 0xFF)] 0x00)) (fun t =>
    t.pair 0 == 0x7E81 && t.sreg == 0x00) = true := by decide
theorem test_fmul : gives (exec (.fmul 16 17) (mk [(16, 0xFF), (17, 0xFF)] 0x00)) (fun t =>
    t.pair 0 == 0xFC02 && t.sreg == 0x01) = true := by decide
theorem test_fmul_2 : gives (exec (.fmul 16 17) (mk [(16, 0x80), (17, 0x80)] 0x00)) (fun t =>
    t.pair 0 == 0x8000 && t.sreg == 0x00) = true := by decide
theorem test_fmuls : gives (exec (.fmuls 16 17) (mk [(16, 0xC0), (17, 0x40)] 0x00)) (fun t =>
    t.pair 0 == 0xE000 && t.sreg == 0x01) = true := by decide
theorem test_fmulsu : gives (exec (.fmulsu 16 17) (mk [(16, 0x80), (17, 0xFF)] 0x00)) (fun t =>
    t.pair 0 == 0x0100 && t.sreg == 0x01) = true := by decide
theorem test_fmulsu_2 : gives (exec (.fmulsu 23 22) (mk [(23, 0x40), (22, 0x80)] 0x00)) (fun t =>
    t.pair 0 == 0x4000 && t.sreg == 0x00) = true := by decide
theorem test_des : gives (exec (.des 3) (mk [(16, 0x77)] 0xFF)) (fun t =>
    t.r 16 == 0x77 && t.sreg == 0xFF && t.pc == 0x0001) = true := by decide

-- jumps, calls, returns (95 §2.9)
theorem test_rjmp : gives (exec (.rjmp 0x800) { mk [] 0x00 with pc := 0x0100 }) (fun t =>
    t.pc == 0xF901) = true := by decide
theorem test_rjmp_2 : gives (exec (.rjmp 0xFFE) (mk [] 0x00)) (fun t =>
    t.pc == 0xFFFF) = true := by decide
theorem test_ijmp : gives (exec .ijmp { mk [(30, 0x34), (31, 0x12)] 0x00 with pc := 0x0010 }) (fun t =>
    t.pc == 0x1234) = true := by decide
theorem test_jmp : gives (exec (.jmp 0x3F1234) { mk [] 0x00 with pc := 0x0010 }) (fun t =>
    t.pc == 0x1234) = true := by decide
theorem test_rcall : gives (exec (.rcall 5) { mk [] 0x00 with pc := 0x0123 }) (fun t =>
    t.ramByte 0x7FFF == some 0x24 && t.ramByte 0x7FFE == some 0x01 && t.sp == 0x7FFD && t.pc == 0x0129) = true := by decide
theorem test_icall : gives (exec .icall { mk [(30, 0x00), (31, 0x20)] 0x00 with pc := 0xABCD }) (fun t =>
    t.ramByte 0x7FFF == some 0xCE && t.ramByte 0x7FFE == some 0xAB && t.sp == 0x7FFD && t.pc == 0x2000) = true := by decide
theorem test_call : gives (exec (.call 0x0100) { mk [] 0x00 with pc := 0x00FE }) (fun t =>
    t.ramByte 0x7FFF == some 0x00 && t.ramByte 0x7FFE == some 0x01 && t.sp == 0x7FFD && t.pc == 0x0100) = true := by decide

/-- A device with a 22-bit PC (95 §2.9). -/
def farCfg : Config := { avr128da64 with pcBits := 22, flashEnd := 0x3FFFFF, hasEind := true }

theorem test_rcall_far : gives (exec (.rcall 5) { mk [] 0x00 with cfg := farCfg, pc := 0x012345 }) (fun t =>
    t.ramByte 0x7FFF == some 0x46 && t.ramByte 0x7FFE == some 0x23 && t.ramByte 0x7FFD == some 0x01 && t.sp == 0x7FFC && t.pc == 0x01234B) = true := by decide
theorem test_eijmp : gives (exec .eijmp { mk [(30, 0x34), (31, 0x12)] 0x00 with cfg := farCfg, eind := 0x02 }) (fun t =>
    t.pc == 0x021234) = true := by decide
theorem test_eicall : gives (exec .eicall { mk [(30, 0x34), (31, 0x12)] 0x00 with cfg := farCfg, eind := 0x02 }) (fun t =>
    t.ramByte 0x7FFF == some 0x01 && t.ramByte 0x7FFE == some 0x00 && t.ramByte 0x7FFD == some 0x00 && t.pc == 0x021234) = true := by decide
theorem test_ret : gives (exec .ret { mk [] 0x81 with sp := 0x7FFD, data := [(0x7FFE, 0x12), (0x7FFF, 0x34)], pc := 0x0200 }) (fun t =>
    t.pc == 0x1234 && t.sp == 0x7FFF && t.sreg == 0x81) = true := by decide
theorem test_reti : gives (exec .reti { mk [] 0x00 with sp := 0x7FFD, data := [(0x7FFE, 0x12), (0x7FFF, 0x34)], inService := [.level0] }) (fun t =>
    t.pc == 0x1234 && t.sp == 0x7FFF && t.sreg == 0x00 && t.inService == [] && t.inhibit) = true := by decide
theorem test_reti_2 : gives (exec .reti { mk [] 0x00 with sp := 0x7FFD, data := [(0x7FFE, 0x12), (0x7FFF, 0x34)], cfg := { avr128da64 with retiSetsI := true } }) (fun t =>
    t.pc == 0x1234 && t.sreg == 0x80 && t.inhibit) = true := by decide

-- compares, skips, branches (95 §2.6 to §2.8)
theorem test_cp : gives (exec (.cp 2 3) (mk [(2, 0x05), (3, 0x0A)] 0x00)) (fun t =>
    t.r 2 == 0x05 && t.sreg == 0x35) = true := by decide
theorem test_cp_2 : gives (exec (.cp 11 12) (mk [(11, 0x7F), (12, 0x80)] 0x00)) (fun t =>
    t.sreg == 0x0D) = true := by decide
theorem test_cpc : gives (exec (.cpc 25 27) (mk [(25, 0x12), (27, 0x12)] 0x00)) (fun t =>
    t.sreg == 0x00) = true := by decide
theorem test_cpc_2 : gives (exec (.cpc 3 1) (mk [] 0x02)) (fun t =>
    t.sreg == 0x02) = true := by decide
theorem test_cpi : gives (exec (.cpi 16 0x80) (mk [(16, 0x7F)] 0x00)) (fun t =>
    t.sreg == 0x0D) = true := by decide
theorem test_cpi_2 : gives (exec (.cpi 20 5) (mk [(20, 0x04)] 0x00)) (fun t =>
    t.sreg == 0x35) = true := by decide
theorem test_cpse : gives (exec (.cpse 4 0) { mk [(4, 0x05), (0, 0x05)] 0x00 with pc := 0x10, prog := [(0x22, 0x0C), (0x23, 0x94)] }) (fun t =>
    t.pc == 0x0013) = true := by decide
theorem test_cpse_2 : gives (exec (.cpse 4 0) { mk [(4, 0x05), (0, 0x06)] 0x00 with pc := 0x10 }) (fun t =>
    t.pc == 0x0011) = true := by decide
theorem test_sbrc : gives (exec (.sbrc 0 7) { mk [(0, 0x7F)] 0x00 with pc := 4, prog := [(0x0A, 0x00), (0x0B, 0x90)] }) (fun t =>
    t.pc == 0x0007) = true := by decide
theorem test_sbrs : gives (exec (.sbrs 31 0) { mk [(31, 0x01)] 0x00 with pc := 4, prog := [(0x0A, 0x00), (0x0B, 0x00)] }) (fun t =>
    t.pc == 0x0006) = true := by decide
theorem test_sbrs_2 : gives (exec (.sbrs 31 0) { mk [(31, 0x00)] 0x00 with pc := 4 }) (fun t =>
    t.pc == 0x0005) = true := by decide

-- SBIC and SBIS read I/O once and skip by the oracle's bit, whichever it is (R218, R219)
theorem test_sbic : gives (exec (.sbic 0x05 0) (mk [] 0)) (fun t => t.hist == [.read (.io 5)] &&
    t.pc == if getBit (Config.ioAnswer [] (.io 5)) 0 == false then 2 else 1) = true := by
  have h : ∀ c : Bool, gives (((mk [] 0).event (.read (.io 5))).skipIf c) (fun t => t.hist == [.read (.io 5)] &&
      t.pc == if c then 2 else 1) = true := by decide
  exact h _
theorem test_sbis : gives (exec (.sbis 0x1F 7) (mk [] 0)) (fun t => t.hist == [.read (.io 0x1F)] &&
    t.pc == if getBit (Config.ioAnswer [] (.io 0x1F)) 7 == true then 2 else 1) = true := by
  have h : ∀ c : Bool, gives (((mk [] 0).event (.read (.io 0x1F))).skipIf c) (fun t => t.hist == [.read (.io 0x1F)] &&
      t.pc == if c then 2 else 1) = true := by decide
  exact h _

theorem test_brbs : gives (exec (.brbs 1 0x40) { mk [] 0x02 with pc := 0x100 }) (fun t =>
    t.pc == 0x00C1 && t.sreg == 0x02) = true := by decide
theorem test_brbs_2 : gives (exec (.brbs 1 0x40) { mk [] 0xFD with pc := 0x100 }) (fun t =>
    t.pc == 0x0101) = true := by decide
theorem test_brbc : gives (exec (.brbc 1 63) { mk [] 0x00 with pc := 0x100 }) (fun t =>
    t.pc == 0x0140) = true := by decide
theorem test_brbc_2 : gives (exec (.brbc 1 0x7E) (mk [] 0x00)) (fun t =>
    t.pc == 0xFFFF) = true := by decide
theorem test_breq : gives (exec (.breq 1) (mk [] 0x02)) (fun t =>
    t.pc == 0x0002 && t.sreg == 0x02) = true := by decide
theorem test_breq_2 : gives (exec (.breq 1) (mk [] 0xFD)) (fun t =>
    t.pc == 0x0001) = true := by decide
theorem test_brne : gives (exec (.brne 1) (mk [] 0xFD)) (fun t =>
    t.pc == 0x0002 && t.sreg == 0xFD) = true := by decide
theorem test_brne_2 : gives (exec (.brne 1) (mk [] 0x02)) (fun t =>
    t.pc == 0x0001) = true := by decide
theorem test_brcs : gives (exec (.brcs 1) (mk [] 0x01)) (fun t =>
    t.pc == 0x0002 && t.sreg == 0x01) = true := by decide
theorem test_brcs_2 : gives (exec (.brcs 1) (mk [] 0xFE)) (fun t =>
    t.pc == 0x0001) = true := by decide
theorem test_brcc : gives (exec (.brcc 1) (mk [] 0xFE)) (fun t =>
    t.pc == 0x0002 && t.sreg == 0xFE) = true := by decide
theorem test_brcc_2 : gives (exec (.brcc 1) (mk [] 0x01)) (fun t =>
    t.pc == 0x0001) = true := by decide
theorem test_brsh : gives (exec (.brsh 1) (mk [] 0xFE)) (fun t =>
    t.pc == 0x0002 && t.sreg == 0xFE) = true := by decide
theorem test_brsh_2 : gives (exec (.brsh 1) (mk [] 0x01)) (fun t =>
    t.pc == 0x0001) = true := by decide
theorem test_brlo : gives (exec (.brlo 1) (mk [] 0x01)) (fun t =>
    t.pc == 0x0002 && t.sreg == 0x01) = true := by decide
theorem test_brlo_2 : gives (exec (.brlo 1) (mk [] 0xFE)) (fun t =>
    t.pc == 0x0001) = true := by decide
theorem test_brmi : gives (exec (.brmi 1) (mk [] 0x04)) (fun t =>
    t.pc == 0x0002 && t.sreg == 0x04) = true := by decide
theorem test_brmi_2 : gives (exec (.brmi 1) (mk [] 0xFB)) (fun t =>
    t.pc == 0x0001) = true := by decide
theorem test_brpl : gives (exec (.brpl 1) (mk [] 0xFB)) (fun t =>
    t.pc == 0x0002 && t.sreg == 0xFB) = true := by decide
theorem test_brpl_2 : gives (exec (.brpl 1) (mk [] 0x04)) (fun t =>
    t.pc == 0x0001) = true := by decide
theorem test_brge : gives (exec (.brge 1) (mk [] 0xEF)) (fun t =>
    t.pc == 0x0002 && t.sreg == 0xEF) = true := by decide
theorem test_brge_2 : gives (exec (.brge 1) (mk [] 0x10)) (fun t =>
    t.pc == 0x0001) = true := by decide
theorem test_brlt : gives (exec (.brlt 1) (mk [] 0x10)) (fun t =>
    t.pc == 0x0002 && t.sreg == 0x10) = true := by decide
theorem test_brlt_2 : gives (exec (.brlt 1) (mk [] 0xEF)) (fun t =>
    t.pc == 0x0001) = true := by decide
theorem test_brhs : gives (exec (.brhs 1) (mk [] 0x20)) (fun t =>
    t.pc == 0x0002 && t.sreg == 0x20) = true := by decide
theorem test_brhs_2 : gives (exec (.brhs 1) (mk [] 0xDF)) (fun t =>
    t.pc == 0x0001) = true := by decide
theorem test_brhc : gives (exec (.brhc 1) (mk [] 0xDF)) (fun t =>
    t.pc == 0x0002 && t.sreg == 0xDF) = true := by decide
theorem test_brhc_2 : gives (exec (.brhc 1) (mk [] 0x20)) (fun t =>
    t.pc == 0x0001) = true := by decide
theorem test_brts : gives (exec (.brts 1) (mk [] 0x40)) (fun t =>
    t.pc == 0x0002 && t.sreg == 0x40) = true := by decide
theorem test_brts_2 : gives (exec (.brts 1) (mk [] 0xBF)) (fun t =>
    t.pc == 0x0001) = true := by decide
theorem test_brtc : gives (exec (.brtc 1) (mk [] 0xBF)) (fun t =>
    t.pc == 0x0002 && t.sreg == 0xBF) = true := by decide
theorem test_brtc_2 : gives (exec (.brtc 1) (mk [] 0x40)) (fun t =>
    t.pc == 0x0001) = true := by decide
theorem test_brvs : gives (exec (.brvs 1) (mk [] 0x08)) (fun t =>
    t.pc == 0x0002 && t.sreg == 0x08) = true := by decide
theorem test_brvs_2 : gives (exec (.brvs 1) (mk [] 0xF7)) (fun t =>
    t.pc == 0x0001) = true := by decide
theorem test_brvc : gives (exec (.brvc 1) (mk [] 0xF7)) (fun t =>
    t.pc == 0x0002 && t.sreg == 0xF7) = true := by decide
theorem test_brvc_2 : gives (exec (.brvc 1) (mk [] 0x08)) (fun t =>
    t.pc == 0x0001) = true := by decide
theorem test_brie : gives (exec (.brie 1) (mk [] 0x80)) (fun t =>
    t.pc == 0x0002 && t.sreg == 0x80) = true := by decide
theorem test_brie_2 : gives (exec (.brie 1) (mk [] 0x7F)) (fun t =>
    t.pc == 0x0001) = true := by decide
theorem test_brid : gives (exec (.brid 1) (mk [] 0x7F)) (fun t =>
    t.pc == 0x0002 && t.sreg == 0x7F) = true := by decide
theorem test_brid_2 : gives (exec (.brid 1) (mk [] 0x80)) (fun t =>
    t.pc == 0x0001) = true := by decide

-- loads (42_data_transfer; 95 §2.10)
theorem test_mov : gives (exec (.mov 0 31) (mk [(31, 0xAB)] 0xFF)) (fun t =>
    t.r 0 == 0xAB && t.sreg == 0xFF) = true := by decide
theorem test_movw : gives (exec (.movw 30 24) (mk [(24, 0xCD), (25, 0xAB)] 0x00)) (fun t =>
    t.pair 30 == 0xABCD) = true := by decide
theorem test_ldi : gives (exec (.ldi 31 0xFF) (mk [] 0x00)) (fun t =>
    t.r 31 == 0xFF) = true := by decide
theorem test_lds : gives (exec (.lds 16 0x003D) { mk [] 0x00 with sp := 0x7F12 }) (fun t =>
    t.r 16 == 0x12 && t.pc == 0x0002) = true := by decide
theorem test_ldX : gives (exec (.ldX 26) { mk [(26, 0x00), (27, 0x40)] 0x00 with data := [(0x4000, 0x12)] }) (fun t =>
    t.r 26 == 0x12 && t.r 27 == 0x40) = true := by decide
theorem test_ldXInc : gives (exec (.ldXInc 0) { mk [(26, 0xFF), (27, 0x40)] 0x00 with data := [(0x40FF, 0x22)] }) (fun t =>
    t.r 0 == 0x22 && t.pair 26 == 0x4100) = true := by decide
theorem test_ldXDec : gives (exec (.ldXDec 0) { mk [(26, 0x00), (27, 0x41)] 0x00 with data := [(0x40FF, 0x33)] }) (fun t =>
    t.r 0 == 0x33 && t.pair 26 == 0x40FF) = true := by decide
theorem test_ldY : gives (exec (.ldY 4) { mk [(28, 0x10), (29, 0x40)] 0x00 with data := [(0x4010, 0x67)] }) (fun t =>
    t.r 4 == 0x67 && t.pair 28 == 0x4010) = true := by decide
theorem test_ldYInc : gives (exec (.ldYInc 5) { mk [(28, 0xFF), (29, 0x7F)] 0x00 with data := [(0x7FFF, 0x44)] }) (fun t =>
    t.r 5 == 0x44 && t.pair 28 == 0x8000) = true := by decide
theorem test_ldYDec : gives (exec (.ldYDec 0) (mk [(28, 0x00), (29, 0x00)] 0x00)) (fun t =>
    t.r 0 == 0xFF && t.pair 28 == 0xFFFF) = true := by decide
theorem test_lddY : gives (exec (.lddY 4 2) { mk [(28, 0x10), (29, 0x40)] 0x00 with data := [(0x4012, 0x66)] }) (fun t =>
    t.r 4 == 0x66 && t.pair 28 == 0x4010) = true := by decide
theorem test_ldZ : gives (exec (.ldZ 0) { mk [(30, 0x00), (31, 0x40)] 0x00 with data := [(0x4000, 0x11)] }) (fun t =>
    t.r 0 == 0x11) = true := by decide
theorem test_ldZInc : gives (exec (.ldZInc 0) { mk [(30, 0x00), (31, 0x40)] 0x00 with data := [(0x4000, 0x11)] }) (fun t =>
    t.r 0 == 0x11 && t.pair 30 == 0x4001) = true := by decide
theorem test_ldZDec : gives (exec (.ldZDec 5) { mk [(30, 0x01), (31, 0x40)] 0x00 with data := [(0x4000, 0x55)] }) (fun t =>
    t.r 5 == 0x55 && t.pair 30 == 0x4000) = true := by decide
theorem test_lddZ : gives (exec (.lddZ 4 63) { mk [(30, 0xC0), (31, 0x7F)] 0x00 with data := [(0x7FFF, 0x77)] }) (fun t =>
    t.r 4 == 0x77 && t.pair 30 == 0x7FC0) = true := by decide
theorem test_ldsRc : gives (exec (.ldsRc 16 0x40) { mk [] 0x00 with data := [(0x40, 0x9A)], cfg := rcCfg }) (fun t =>
    t.r 16 == 0x9A && t.pc == 0x0001) = true := by decide

-- stores (95 §2.10)
theorem test_sts : gives (exec (.sts 0x7FFF 2) (mk [(2, 0xA5)] 0x00)) (fun t =>
    t.ramByte 0x7FFF == some 0xA5 && t.pc == 0x0002) = true := by decide
theorem test_sts_2 : gives (exec (.sts 0x003F 16) (mk [(16, 0x81)] 0x00)) (fun t =>
    t.sreg == 0x81 && t.pc == 0x0002 && t.inhibit) = true := by decide
theorem test_stX : gives (exec (.stX 1) (mk [(26, 0x00), (27, 0x40), (1, 0x99)] 0x00)) (fun t =>
    t.ramByte 0x4000 == some 0x99 && t.pair 26 == 0x4000) = true := by decide
theorem test_stXInc : gives (exec (.stXInc 1) (mk [(26, 0x00), (27, 0x40), (1, 0x99)] 0x00)) (fun t =>
    t.ramByte 0x4000 == some 0x99 && t.pair 26 == 0x4001) = true := by decide
theorem test_stXDec : gives (exec (.stXDec 31) (mk [(26, 0x01), (27, 0x40), (31, 0x3C)] 0x00)) (fun t =>
    t.ramByte 0x4000 == some 0x3C && t.pair 26 == 0x4000) = true := by decide
theorem test_stY : gives (exec (.stY 1) (mk [(28, 0x00), (29, 0x40), (1, 0x99)] 0x00)) (fun t =>
    t.ramByte 0x4000 == some 0x99) = true := by decide
theorem test_stYInc : gives (exec (.stYInc 1) (mk [(28, 0xFF), (29, 0x4F), (1, 0x99)] 0x00)) (fun t =>
    t.ramByte 0x4FFF == some 0x99 && t.pair 28 == 0x5000) = true := by decide
theorem test_stYDec : gives (exec (.stYDec 1) (mk [(28, 0x00), (29, 0x50), (1, 0x99)] 0x00)) (fun t =>
    t.ramByte 0x4FFF == some 0x99 && t.pair 28 == 0x4FFF) = true := by decide
theorem test_stdY : gives (exec (.stdY 2 5) (mk [(28, 0x00), (29, 0x60), (5, 0x42)] 0x00)) (fun t =>
    t.ramByte 0x6002 == some 0x42 && t.pair 28 == 0x6000) = true := by decide
theorem test_stdY_2 : gives (exec (.stdY 1 28) (mk [(28, 0x00), (29, 0x40)] 0x00)) (fun t =>
    t.ramByte 0x4001 == some 0x00) = true := by decide
theorem test_stZ : gives (exec (.stZ 1) (mk [(30, 0x00), (31, 0x50), (1, 0xEE)] 0x00)) (fun t =>
    t.ramByte 0x5000 == some 0xEE) = true := by decide
theorem test_stZInc : gives (exec (.stZInc 1) (mk [(30, 0x00), (31, 0x50), (1, 0xEE)] 0x00)) (fun t =>
    t.ramByte 0x5000 == some 0xEE && t.pair 30 == 0x5001) = true := by decide
theorem test_stZDec : gives (exec (.stZDec 1) (mk [(30, 0x00), (31, 0x50), (1, 0xEE)] 0x00)) (fun t =>
    t.ramByte 0x4FFF == some 0xEE && t.pair 30 == 0x4FFF) = true := by decide
theorem test_stdZ : gives (exec (.stdZ 33 1) (mk [(30, 0x00), (31, 0x40), (1, 0x99)] 0x00)) (fun t =>
    t.ramByte 0x4021 == some 0x99) = true := by decide
theorem test_stsRc : gives (exec (.stsRc 0x40 16) { mk [(16, 0x5C)] 0x00 with cfg := rcCfg }) (fun t =>
    t.ramByte 0x0040 == some 0x5C && t.pc == 0x0001) = true := by decide

-- program memory, I/O, stack, read-modify-write (95 §2.10)
theorem test_lpmR0 : gives (exec .lpmR0 { mk [(30, 0x01), (31, 0x02)] 0x00 with prog := [(0x0200, 0xEF), (0x0201, 0xBE), (0x0202, 0x34), (0x0203, 0x12)] }) (fun t =>
    t.r 0 == 0xBE) = true := by decide
theorem test_lpmZ : gives (exec (.lpmZ 16) { mk [(30, 0x02), (31, 0x02)] 0x00 with prog := [(0x0200, 0xEF), (0x0201, 0xBE), (0x0202, 0x34), (0x0203, 0x12)] }) (fun t =>
    t.r 16 == 0x34 && t.pair 30 == 0x0202) = true := by decide
theorem test_lpmZInc : gives (exec (.lpmZInc 16) { mk [(30, 0xFF), (31, 0xFF)] 0x00 with prog := [(0xFFFE, 0x88), (0xFFFF, 0x99)] }) (fun t =>
    t.r 16 == 0x99 && t.pair 30 == 0x0000 && t.rampz == 0) = true := by decide
theorem test_elpmR0 : gives (exec .elpmR0 { mk [] 0x00 with rampz := 1, prog := [(0x10000, 0xFE), (0x10001, 0xCA)] }) (fun t =>
    t.r 0 == 0xFE) = true := by decide
theorem test_elpmZ : gives (exec (.elpmZ 16) { mk [(30, 0x01), (31, 0x00)] 0x00 with rampz := 1, prog := [(0x10000, 0xFE), (0x10001, 0xCA)] }) (fun t =>
    t.r 16 == 0xCA) = true := by decide
theorem test_elpmZInc : gives (exec (.elpmZInc 16) { mk [(30, 0xFF), (31, 0xFF)] 0x00 with prog := [(0xFFFE, 0x88), (0xFFFF, 0x99)] }) (fun t =>
    t.r 16 == 0x99 && t.pair 30 == 0x0000 && t.rampz == 1) = true := by decide
theorem test_elpmZInc_2 : gives (exec (.elpmZInc 16) { mk [(30, 0xFF), (31, 0xFF)] 0x00 with rampz := 1, prog := [(0x1FFFE, 0x5A), (0x1FFFF, 0xA5)] }) (fun t =>
    t.r 16 == 0xA5 && t.pair 30 == 0x0000 && t.rampz == 2) = true := by decide
theorem test_elpm_beyond : faults (exec (.elpmZ 16) { mk [] 0 with rampz := 2 }) (.unmappedProgram 0x10000) = true := by
  decide
theorem test_spm_absent : refuses (exec .spm (mk [] 0)) (.deviceDefined "SPM") = true := by decide
theorem test_spm : gives (exec .spm { mk [(30, 0x00), (31, 0x02), (0, 0xEF), (1, 0xBE)] 0x00 with cfg := { avr128da64 with spmEffect := .writeWord } }) (fun t =>
    t.prog.flashWord 0x100 == 0xBEEF && t.pc == 0x0001 && t.pair 30 == 0x0200) = true := by decide
theorem test_spmZInc : gives (exec .spmZInc { mk [(30, 0xFE), (31, 0xFF), (0, 0xEF), (1, 0xBE)] 0x00 with cfg := { avr128da64 with spmEffect := .writeWord } }) (fun t =>
    t.prog.flashWord 0x7FFF == 0xBEEF && t.pair 30 == 0x0000 && t.rampz == 1) = true := by decide
theorem test_spm_device : gives (exec .spmZInc { mk [(30, 0x01), (0, 0xEF), (1, 0xBE)] 0x00 with
    cfg := { avr128da64 with spmEffect := .device } }) (fun t =>
    t.hist == [.spm 0x0001 0xBEEF] && t.r 30 == 0x03 && t.pc == 1) = true := by decide
-- 00_scope R4: a plain yes is not taken away by Avail, a "(device)" cell is; EIJMP and EICALL by PC_BITS
theorem test_avail_plain : [Instr.adiw 24 1, .sbiw 24 1, .lpmR0, .spm, .spmZInc, .push 0, .pop 0].all
    ({ avr128da64 with lacks := [.adiw, .sbiw, .lpm, .spm, .push, .pop] } : Config).available = true := by decide
theorem test_avail_device : [Instr.adiw 24 1, .sbiw 24 1, .jmp 0, .call 0, .spm].all
    (fun i => !({ avr128da64 with core := .avrePlus, lacks := [.adiw, .sbiw, .jmp, .call, .spm] } : Config).available i) = true := by
  decide
theorem test_avail_one_by_one :
    (let c : Config := { avr128da64 with core := .avre, lacks := [.adiw, .jmp] };
      [Instr.adiw 24 1, .sbiw 24 1, .jmp 0, .call 0].map c.available) = [false, true, false, true] := by decide
-- 00_scope R8: DataMap is any map, a window's byte addresses among it
theorem test_dataMap_any :
    (let c : Config := { avr128da64 with
        regions := [{ first := 0x5000, last := 0x5000, kind := .unmapped }, { first := 0x4000, last := 0x7FFF, kind := .ram },
          { first := 0x9000, last := 0x9001, kind := .progWindow 0x1234 0 }, { first := 0xA000, last := 0xA000, kind := .io 0x3F },
          { first := 0xA001, last := 0xA002, kind := .reg 16 }] };
      [0x4FFF, 0x5000, 0x9001, 0xA000, 0xA002, 0xA003].map (dataLoc c)) =
    [.ram, .unmapped, .progWindow 0x1235 0, .io 0x3F, .reg 17, .unmapped] := by decide
theorem test_avail_eijmp : (farCfg.available .eijmp && farCfg.available .eicall &&
    !({ avr128da64 with hasEind := true } : Config).available .eijmp) = true := by decide
-- 70_reset R461, note (2), and R462: EEPROM, extended I/O, and a stack outside RAM in the AVRxt column
theorem test_cost_eeprom : instrCost (.ldX 0) (mk [(27, 0x14)] 0) State.reset = .atLeast 3 := by decide
theorem test_cost_fuses : instrCost (.lds 0 0x1040) State.reset State.reset = .atLeast 4 := by decide
theorem test_cost_extended_io : instrCost (.lds 0 0x103F) State.reset State.reset = .atLeast 3 := by decide
theorem test_cost_stack : ([Instr.push 0, .pop 0, .rcall 0, .call 0, .ret, .reti].map fun i =>
    instrCost i { State.reset with sp := 0x0040 } State.reset) =
    [1, 2, 2, 3, 4, 4].map Cost.exactly := by decide
theorem test_in : gives (exec (.inIo 0 0x3F) (mk [] 0xA5)) (fun t =>
    t.r 0 == 0xA5) = true := by decide
theorem test_in_2 : gives (exec (.inIo 17 0x3E) { mk [] 0x00 with sp := 0x7ABC }) (fun t =>
    t.r 17 == 0x7A) = true := by decide
theorem test_out : gives (exec (.out 0x3F 0) (mk [(0, 0xFF)] 0x00)) (fun t =>
    t.sreg == 0xFF && t.inhibit) = true := by decide
theorem test_out_2 : gives (exec (.out 0x3E 16) (mk [(16, 0x12)] 0x00)) (fun t =>
    t.sp == 0x12FF) = true := by decide
theorem test_push : gives (exec (.push 14) (mk [(14, 0xEE)] 0x00)) (fun t =>
    t.ramByte 0x7FFF == some 0xEE && t.sp == 0x7FFE) = true := by decide
theorem test_push_2 : gives (exec (.push 0) { mk [(0, 0x11)] 0x00 with sp := 0 }) (fun t =>
    t.hist == [.write (.io 0) 0x11] && t.sp == 0xFFFF) = true := by decide
theorem test_pop : gives (exec (.pop 15) { mk [] 0x00 with sp := 0x7FFE, data := [(0x7FFF, 0x77)] }) (fun t =>
    t.r 15 == 0x77 && t.sp == 0x7FFF) = true := by decide
theorem test_xch : gives (exec (.xch 5) { mk [(30, 0x00), (31, 0x40), (5, 0x55)] 0x00 with data := [(0x4000, 0xAA)] }) (fun t =>
    t.ramByte 0x4000 == some 0x55 && t.r 5 == 0xAA) = true := by decide
theorem test_las : gives (exec (.las 5) { mk [(30, 0x00), (31, 0x40), (5, 0x55)] 0x00 with data := [(0x4000, 0xAA)] }) (fun t =>
    t.ramByte 0x4000 == some 0xFF && t.r 5 == 0xAA) = true := by decide
theorem test_lac : gives (exec (.lac 5) { mk [(30, 0x00), (31, 0x40), (5, 0x55)] 0x00 with data := [(0x4000, 0xAA)] }) (fun t =>
    t.ramByte 0x4000 == some 0xAA && t.r 5 == 0xAA) = true := by decide
theorem test_lat : gives (exec (.lat 5) { mk [(30, 0x00), (31, 0x40), (5, 0x55)] 0x00 with data := [(0x4000, 0xAA)] }) (fun t =>
    t.ramByte 0x4000 == some 0xFF && t.r 5 == 0xAA) = true := by decide

-- shifts, bits and flags (43_bit_and_bit_test; 95 §2.4, §2.5)
theorem test_lsl : gives (exec (.lsl 16) (mk [(16, 0x48)] 0x00)) (fun t =>
    t.r 16 == 0x90 && t.sreg == 0x2C) = true := by decide
theorem test_lsl_2 : gives (exec (.lsl 16) (mk [(16, 0x80)] 0x00)) (fun t =>
    t.r 16 == 0x00 && t.sreg == 0x1B) = true := by decide
theorem test_lsr : gives (exec (.lsr 16) (mk [(16, 0x80)] 0x01)) (fun t =>
    t.r 16 == 0x40 && t.sreg == 0x00) = true := by decide
theorem test_lsr_2 : gives (exec (.lsr 16) (mk [(16, 0xFF)] 0x00)) (fun t =>
    t.r 16 == 0x7F && t.sreg == 0x19) = true := by decide
theorem test_rol : gives (exec (.rol 16) (mk [(16, 0x80)] 0x01)) (fun t =>
    t.r 16 == 0x01 && t.sreg == 0x19) = true := by decide
theorem test_rol_2 : gives (exec (.rol 19) (mk [(19, 0xFF)] 0x01)) (fun t =>
    t.r 19 == 0xFF && t.sreg == 0x35) = true := by decide
theorem test_ror : gives (exec (.ror 16) (mk [(16, 0x01)] 0x01)) (fun t =>
    t.r 16 == 0x80 && t.sreg == 0x15) = true := by decide
theorem test_ror_2 : gives (exec (.ror 16) (mk [(16, 0x00)] 0x01)) (fun t =>
    t.r 16 == 0x80 && t.sreg == 0x0C) = true := by decide
theorem test_asr : gives (exec (.asr 16) (mk [(16, 0xFF)] 0x00)) (fun t =>
    t.r 16 == 0xFF && t.sreg == 0x15) = true := by decide
theorem test_asr_2 : gives (exec (.asr 17) (mk [(17, 0xFC)] 0x00)) (fun t =>
    t.r 17 == 0xFE && t.sreg == 0x0C) = true := by decide
theorem test_swap : gives (exec (.swap 5) (mk [(5, 0x1F)] 0xFF)) (fun t =>
    t.r 5 == 0xF1 && t.sreg == 0xFF) = true := by decide

-- SBI and CBI: one read, then the write of the byte with the one bit changed (R346, R347)
theorem test_sbi : gives (exec (.sbi 0x05 0) (mk [] 0)) (fun t =>
    t.hist == [.read (.io 5), .write (.io 5) (putBit (Config.ioAnswer [] (.io 5)) 0 true)] && t.pc == 1) = true := by
  simp [exec, execSbi, writeIoBit, gives, State.ioRead, State.ioWrite, State.oracleRead, State.oracleWrite, State.event, mk,
    State.reset, avr128da64, State.advance, State.setPc]
theorem test_cbi : gives (exec (.cbi 0x05 4) (mk [] 0)) (fun t =>
    t.hist == [.read (.io 5), .write (.io 5) (putBit (Config.ioAnswer [] (.io 5)) 4 false)] && t.pc == 1) = true := by
  simp [exec, execCbi, writeIoBit, gives, State.ioRead, State.ioWrite, State.oracleRead, State.oracleWrite, State.event, mk,
    State.reset, avr128da64, State.advance, State.setPc]
theorem test_sbi_value : putBit 0x80#8 0 true = 0x81#8 := by decide
theorem test_cbi_value : putBit 0xFF#8 4 false = 0xEF#8 := by decide

theorem test_bst : gives (exec (.bst 3 5) (mk [(3, 0x20)] 0x00)) (fun t =>
    t.sreg == 0x40) = true := by decide
theorem test_bst_2 : gives (exec (.bst 7 0) (mk [(7, 0xFE)] 0xFF)) (fun t =>
    t.sreg == 0xBF) = true := by decide
theorem test_bld : gives (exec (.bld 0 4) (mk [(0, 0x00)] 0x40)) (fun t =>
    t.r 0 == 0x10 && t.sreg == 0x40) = true := by decide
theorem test_bld_2 : gives (exec (.bld 0 4) (mk [(0, 0xFF)] 0xBF)) (fun t =>
    t.r 0 == 0xEF) = true := by decide
theorem test_bset : gives (exec (.bset 7) (mk [] 0x00)) (fun t =>
    t.sreg == 0x80 && t.inhibit) = true := by decide
theorem test_bset_2 : gives (exec (.bset 0) (mk [] 0x80)) (fun t =>
    t.sreg == 0x81 && !t.inhibit) = true := by decide
theorem test_bclr : gives (exec (.bclr 1) (mk [] 0x03)) (fun t =>
    t.sreg == 0x01) = true := by decide
theorem test_sec : gives (exec .sec (mk [] 0x00)) (fun t =>
    t.sreg == 0x01 && t.pc == 0x0001) = true := by decide
theorem test_clc : gives (exec .clc (mk [] 0xFF)) (fun t =>
    t.sreg == 0xFE && t.pc == 0x0001) = true := by decide
theorem test_sez : gives (exec .sez (mk [] 0x00)) (fun t =>
    t.sreg == 0x02 && t.pc == 0x0001) = true := by decide
theorem test_clz : gives (exec .clz (mk [] 0xFF)) (fun t =>
    t.sreg == 0xFD && t.pc == 0x0001) = true := by decide
theorem test_sen : gives (exec .sen (mk [] 0x00)) (fun t =>
    t.sreg == 0x04 && t.pc == 0x0001) = true := by decide
theorem test_cln : gives (exec .cln (mk [] 0xFF)) (fun t =>
    t.sreg == 0xFB && t.pc == 0x0001) = true := by decide
theorem test_sev : gives (exec .sev (mk [] 0x00)) (fun t =>
    t.sreg == 0x08 && t.pc == 0x0001) = true := by decide
theorem test_clv : gives (exec .clv (mk [] 0xFF)) (fun t =>
    t.sreg == 0xF7 && t.pc == 0x0001) = true := by decide
theorem test_ses : gives (exec .ses (mk [] 0x00)) (fun t =>
    t.sreg == 0x10 && t.pc == 0x0001) = true := by decide
theorem test_cls : gives (exec .cls (mk [] 0xFF)) (fun t =>
    t.sreg == 0xEF && t.pc == 0x0001) = true := by decide
theorem test_seh : gives (exec .seh (mk [] 0x00)) (fun t =>
    t.sreg == 0x20 && t.pc == 0x0001) = true := by decide
theorem test_clh : gives (exec .clh (mk [] 0xFF)) (fun t =>
    t.sreg == 0xDF && t.pc == 0x0001) = true := by decide
theorem test_set : gives (exec .set (mk [] 0x00)) (fun t =>
    t.sreg == 0x40 && t.pc == 0x0001) = true := by decide
theorem test_clt : gives (exec .clt (mk [] 0xFF)) (fun t =>
    t.sreg == 0xBF && t.pc == 0x0001) = true := by decide
theorem test_sei : gives (exec .sei (mk [] 0x00)) (fun t =>
    t.sreg == 0x80 && t.pc == 0x0001) = true := by decide
theorem test_cli : gives (exec .cli (mk [] 0xFF)) (fun t =>
    t.sreg == 0x7F && t.pc == 0x0001) = true := by decide

-- MCU control (95 §2.11)
theorem test_break : gives (exec .brk (mk [] 0x00)) (fun t =>
    t.pc == 0x0001 && !t.stopped) = true := by decide
theorem test_break_2 : gives (exec .brk { mk [] 0x00 with cfg := { avr128da64 with debugAttached := true } }) (fun t =>
    t.pc == 0x0001 && t.stopped) = true := by decide
theorem test_nop : gives (exec .nop (mk [(1, 0x01)] 0xA5)) (fun t =>
    t.pc == 0x0001 && t.sreg == 0xA5 && t.r 1 == 0x01) = true := by decide
theorem test_sleep : gives (exec .sleep (mk [] 0x00)) (fun t =>
    t.pc == 0x0001 && t.sleeping) = true := by decide
theorem test_sleep_2 : gives (exec .sleep { mk [] 0x00 with sleepAnswers := [false] }) (fun t =>
    t.pc == 0x0001 && !t.sleeping) = true := by decide
theorem test_wdr : gives (exec .wdr (mk [] 0x00)) (fun t =>
    t.pc == 0x0001 && t.hist == [.wdr]) = true := by decide

/-! ### Faults and refusals (95 §2.12) -/

theorem test_undefined_load : faults (exec (.ldXInc 26) (mk [] 0)) (.undefinedOperands "LD") = true := by decide
theorem test_undefined_store : faults (exec (.stXDec 27) (mk [] 0)) (.undefinedOperands "ST") = true := by decide
theorem test_undefined_lpm : faults (exec (.lpmZInc 30) (mk [] 0)) (.undefinedOperands "LPM") = true := by decide
theorem test_unmapped : faults (exec (.ldX 16) (mk [(27, 0x20)] 0)) (.unmappedData 0x2000) = true := by decide
theorem test_mapped_store : refuses (exec (.stX 16) (mk [(27, 0x80)] 0)) (.deviceDefined "store to mapped Flash") =
    true := by decide
theorem test_rmw_outside_ram : refuses (exec (.xch 1) (mk [] 0)) (.deviceDefined "XCH") = true := by decide

/-! ### Steps: fetch, boundary, interrupts (95 §2.12, §2.13) -/

theorem test_step_add : gives (step ((mk [(1, 0x7F), (2, 0x01)] 0).withFetchWord 16 0x0C12)) (fun t =>
    t.r 1 == 0x80 && t.sreg == 0x2C && t.pc == 1 && t.cyc == 1) = true := by decide
theorem test_step_lds : gives (step ({ mk [] 0 with data := [(0x4000, 0xAB)] }.withFetchWord 32 0x40009020)) (fun t =>
    t.r 2 == 0xAB && t.pc == 2) = true := by decide
theorem test_step_erased : faults (step State.reset) (.reservedOpcode 0xFFFF) = true := by decide
theorem test_step_des : faults (step (State.reset.withFetchWord 16 0x943B)) (.notAvailable "DES") = true := by decide
theorem test_step_eijmp : faults (step (State.reset.withFetchWord 16 0x9419)) (.notAvailable "EIJMP") = true := by decide
theorem test_step_adiw_reduced : faults (step ({ State.reset with cfg := { avr128da64 with core := .avrrc } }.withFetchWord
    16 0x9601)) (.notAvailable "ADIW") = true := by decide
theorem test_step_stopped : faults (step { State.reset with stopped := true }) .stoppedByBreak = true := by decide
theorem test_irq_entry : gives (step { mk [] 0x80 with pc := 0x0123, env := [.irq 5 .level0] }) (fun t =>
    t.ramByte 0x7FFF == some 0x23 && t.ramByte 0x7FFE == some 0x01 && t.sp == 0x7FFD && t.pc == 0x000A && t.sreg == 0x80 &&
    t.inService == [.level0]) = true := by decide
theorem test_irq_entry_clears_i : gives (step { mk [] 0x80 with
    pc := 0x0123, env := [.irq 5 .level0], cfg := { avr128da64 with irqClearsI := true } }) (fun t =>
    t.pc == 0x000A && t.sreg == 0x00) = true := by decide
theorem test_irq_inhibited : gives (step { mk [] 0x80 with
    pc := 0x0123, inhibit := true, prog := [(0x246, 0x00), (0x247, 0x00)], env := [.irq 5 .level0] }) (fun t =>
    t.pc == 0x0124 && !t.inhibit && t.inService == []) = true := by decide
theorem test_irq_masked : gives (step { mk [] 0x00 with
    pc := 0x0123, prog := [(0x246, 0x00), (0x247, 0x00)], env := [.irq 5 .level0] }) (fun t => t.pc == 0x0124 && t.inService == []) = true := by decide
theorem test_irq_wakes : gives (step { mk [] 0x80 with pc := 0x0051, sleeping := true, env := [.irq 2 .level0] }) (fun t =>
    t.ramByte 0x7FFF == some 0x51 && t.ramByte 0x7FFE == some 0x00 && t.pc == 0x0004 && !t.sleeping) = true := by decide
theorem test_reset_values : State.reset.pc = 0 ∧ State.reset.sp = 0x7FFF#16 ∧ State.reset.sreg = 0#8 := by decide

/-! ### Witnesses: the hypotheses of the statements can be met

One theorem for each statement with hypotheses, and for each of its clauses, at boundary values where the clause has a
range. -/

/-- An AVR128DA64 state without handlers in service, whose memories are canonical, meets the invariant. -/
theorem inv_of {s : State} (hc : s.cfg = avr128da64) (hp : s.pc.toNat < 65536)
    (hr : s.rampx = 0#8 ∧ s.rampy = 0#8 ∧ s.rampd = 0#8 ∧ s.eind = 0#8) (hd : Memory.wf s.data = true)
    (hd' : (s.data.all fun c => dataLoc avr128da64 c.1 == .ram) = true) (hg : Memory.flashWf s.prog = true)
    (hg' : (s.prog.all fun c => decide (c.1 / 2 ≤ 0xFFFF)) = true) (hi : s.inService = []) : s.Inv where
  legal := by rw [hc]; exact ⟨by decide, by decide⟩
  pc := by rw [hc]; exact hp
  sp := by rw [hc]; exact s.sp.isLt
  rampx := fun _ => hr.1
  rampy := fun _ => hr.2.1
  rampz := fun e => by rw [hc] at e; cases e
  rampd := fun _ => hr.2.2.1
  eind := fun _ => hr.2.2.2
  dataWf := hd
  dataRam := fun c h => by rw [hc]; simpa using List.all_eq_true.1 hd' c h
  progWf := hg
  progEnd := fun c h => by rw [hc]; exact of_decide_eq_true (List.all_eq_true.1 hg' c h)
  service := fun _ => by rw [hi]; exact .nil
  levels := fun l h => by rw [hi] at h; cases h

theorem witness_DecodeOfEncode :
    (Instr.ldsRc 16 0x40).wellFormed = true ∧ Core.has .avrrc (.ldsRc 16 0x40) = true ∧
      (Core.avrrc = .avrrc → (Instr.ldsRc 16 0x40).namesUpperOnly = true) ∧
    (Instr.adiw 30 63).wellFormed = true ∧ Core.has .avrxt (.adiw 30 63) = true := by decide
theorem witness_EncodeOfDecode : decode .avrxt 0x940D#16 0x2345#16 = .ok (.jmp 0x012345) ∧ Core.avrxt ≠ .avrrc := by decide
theorem witness_ReservedWords : Core.avrxt ≠ .avrrc := by decide

/-- The reset state with NOP, and with JMP 0x012345, at the program counter. -/
def atNop : State := State.reset.withFetchWord 16 0x0000
def atJmp : State := State.reset.withFetchWord 32 0x2345940D

theorem witness_StepRunsInstruction :
    atJmp.boundary = .run { atJmp.takeEnv with inhibit := false } ∧ atJmp.progWord 0 = .next 0x940D#16 ∧
    instrLen .avrxt 0x940D#16 = 2 ∧ atJmp.progWord 1 = .next 0x2345#16 ∧
    decode .avrxt 0x940D#16 0x2345#16 = .ok (.jmp 0x012345) ∧ avr128da64.available (.jmp 0x012345) = true :=
  ⟨rfl, rfl, by decide, rfl, by decide, by decide⟩
theorem witness_StepAtBoundary_stopped : ({ State.reset with stopped := true } : State).stopped = true := rfl
theorem witness_StepAtBoundary_asleep :
    let s : State := { State.reset with sleeping := true }
    s.stopped = false ∧ s.sleeping = true ∧ s.envHead ≠ .reset ∧ s.granted s.envHead = none := by decide
theorem witness_NoSuchInstruction_reserved :
    State.reset.boundary = .run { State.reset.takeEnv with inhibit := false } ∧
    State.reset.progWord 0 = .next 0xFFFF#16 ∧ decode .avrxt 0xFFFF#16 0#16 = .error (.reservedWord 0xFFFF#16) :=
  ⟨rfl, rfl, by decide⟩
theorem witness_NoSuchInstruction_absent :
    decode .avrxt 0x943B#16 0#16 = .ok (.des 3) ∧ avr128da64.available (.des 3) = false := by decide
theorem witness_StepKeepsInv : atNop.Inv ∧ ∃ t, step atNop = .next t :=
  ⟨inv_of rfl (by decide) (by decide) (by decide) (by decide) (by decide) (by decide) rfl, _, rfl⟩
theorem witness_StepAtBoundary_keeps : ∃ t, step atNop = .next t := ⟨_, rfl⟩
theorem witness_StepKeepsProgram : (∃ t, step atNop = .next t) ∧ atNop.cfg.spmEffect = .absent ∧
    (∃ t, exec .nop atNop = .next t) ∧ Instr.nop ≠ .spm ∧ Instr.nop ≠ .spmZInc :=
  ⟨⟨_, rfl⟩, rfl, ⟨_, rfl⟩, by decide, by decide⟩
theorem witness_ResetRequest :
    let s : State := { State.reset with env := [.reset], sleeping := true }
    s.stopped = false ∧ s.envHead = .reset := by decide

/-- A request of level 0 at an address past the reset vector. -/
def asked (sr : Byte) (level : IrqLevel) : State := { mk [] sr with pc := 0x0123, env := [.irq 5 level] }

theorem witness_InterruptTaken : (asked 0x80 .level0).stopped = false ∧ (asked 0x80 .level0).envHead = .irq 5 .level0 ∧
    (∃ u, (asked 0x80 .level0).boundary = .interrupt 5 .level0 u) ∧
    (∃ u, (asked 0x00 .nmi).boundary = .interrupt 5 .nmi u) ∧
    (∃ u, (asked 0x00 .level0).boundary = .run u) := ⟨rfl, rfl, ⟨_, rfl⟩, ⟨_, rfl⟩, ⟨_, rfl⟩⟩
theorem room (s : State) (hc : s.cfg = avr128da64) (hs : s.sp = 0x7FFF#16) : s.RoomFor s.cfg.retBytes := by
  refine ⟨by rw [hc]; decide, fun j hj => ?_⟩
  rw [hc] at hj ⊢
  rw [State.below, hc, hs]
  have h : j = 0 ∨ j = 1 := by have : j < 2 := hj; omega
  rcases h with rfl | rfl <;> decide
theorem witness_InterruptEntry : (asked 0x80 .level0).Inv ∧ (asked 0x80 .level0).RoomFor (asked 0x80 .level0).cfg.retBytes ∧
    ∃ u, (asked 0x80 .level0).boundary = .interrupt 5 .level0 u :=
  ⟨inv_of rfl (by decide) (by decide) (by decide) (by decide) (by decide) (by decide) rfl, room _ rfl rfl, _, rfl⟩
/-- The handler is the bare RETI: the state at it is the state the entry left. -/
theorem witness_InterruptRoundTrip : (asked 0x80 .level0).Inv ∧
    (asked 0x80 .level0).RoomFor (asked 0x80 .level0).cfg.retBytes ∧
    ∃ t u : State, (asked 0x80 .level0).enterIrq 5 .level0 = .next t ∧ u.cfg = t.cfg ∧ u.sp = t.sp ∧
      u.inService = t.inService ∧ ∀ j < (asked 0x80 .level0).cfg.retBytes,
        u.ramByte ((asked 0x80 .level0).below j) = t.ramByte ((asked 0x80 .level0).below j) :=
  ⟨inv_of rfl (by decide) (by decide) (by decide) (by decide) (by decide) (by decide) rfl, room _ rfl rfl, _, _, rfl, rfl,
    rfl, rfl, fun _ _ => rfl⟩
theorem witness_InhibitAfterEnable_store :
    let s := mk [(0, 0x80)] 0
    Instr.out (BitVec.ofNat 6 s.cfg.sregIo) 0 ∈ [Instr.sei, .bset 7#3, .out (BitVec.ofNat 6 s.cfg.sregIo) 0] ∧
      s.cfg.sregIo < 64 ∧ flagI s.sreg = false ∧
      gives (exec (.out (BitVec.ofNat 6 s.cfg.sregIo) 0) s) (fun t => flagI t.sreg) = true := by decide
theorem witness_InhibitAfterEnable_sts :
    let s := mk [(0, 0x80)] 0
    dataLoc s.cfg (s.directAddr 0x003F) = .io s.cfg.sregIo ∧ flagI s.sreg = false ∧
      gives (exec (.sts 0x003F 0) s) (fun t => flagI t.sreg) = true := by decide
theorem witness_InhibitAfterEnable_push :
    let s : State := { mk [(0, 0x80)] 0 with sp := 0x003F }
    dataLoc s.cfg s.sp.toNat = .io s.cfg.sregIo ∧ flagI s.sreg = false ∧
      gives (exec (.push 0) s) (fun t => flagI t.sreg) = true := by decide
theorem witness_InhibitAfterEnable_reti :
    ∃ t, exec .reti { mk [] 0 with sp := 0x7FFD, data := [(0x7FFE, 0x12), (0x7FFF, 0x34)] } = .next t := ⟨_, rfl⟩
theorem witness_InhibitAfterEnable_next :
    let s : State := { asked 0x80 .level0 with inhibit := true }
    s.inhibit = true ∧ s.stopped = false ∧ s.envHead ≠ .reset ∧ s.sleeping = false := by decide
theorem witness_NestingDepth :
    let s : State := { State.reset with inService := [.nmi, .level1, .level0] }
    s.Inv ∧ s.cfg = avr128da64 ∧ s.inService.length = 3 := by
  have h : State.Inv { State.reset with inService := [] } :=
    inv_of rfl (by decide) (by decide) (by decide) (by decide) (by decide) (by decide) rfl
  exact ⟨⟨h.1, h.2, h.3, h.4, h.5, h.6, h.7, h.8, h.9, h.10, h.11, h.12, fun _ => by decide, by decide⟩, rfl, rfl⟩

-- memory
theorem witness_RamReadAfterWrite : dataLoc State.reset.cfg 0x4000 = .ram ∧ dataLoc State.reset.cfg 0x7FFF = .ram ∧
    (∃ t, State.reset.memWrite 0x4000 0x5A = .next t) ∧ Memory.wf State.reset.data = true :=
  ⟨by decide, by decide, ⟨_, rfl⟩, rfl⟩
/-- A classic device: the register file and the I/O space in data space, RAMPX to RAMPD and EIND there. -/
def classicCfg : Config :=
  { avr128da64 with
    core := .avrxm, pcBits := 22, flashEnd := 0x3FFFFF, ptrWidth := .w24, hasRampx := true, hasRampy := true,
    hasRampz := true, hasRampd := true, hasEind := true, ioBase := 0x20, regsInDs := true,
    regions := [⟨0x2000, 0xFFFFFF, .ram⟩] }
theorem witness_DataReadByClass :
    dataLoc avr128da64 0x4000 = .ram ∧ ({ State.reset with data := [(0x4000, 0x5A)] } : State).ramByte 0x4000 = some 0x5A ∧
    State.reset.ramByte 0x4000 = none ∧ dataLoc classicCfg 31 = .reg 31 ∧ dataLoc avr128da64 0x3F = .io 0x3F ∧
    dataLoc avr128da64 0x8000 = .progWindow 0 0x8000 ∧ dataLoc avr128da64 0xFFFF = .progWindow 0x7FFF 0x8000 ∧
    (State.reset.flashMap.toNat * 0x8000 + 0x7FFF) / 2 ≤ State.reset.cfg.flashEnd ∧
    dataLoc avr128da64 0x40 = .other ∧ dataLoc avr128da64 0x1600 = .unmapped := by decide
theorem witness_Avr128DataMap :
    dataLoc avr128da64 0 = .io 0 ∧ dataLoc avr128da64 0x3F = .io 0x3F ∧ dataLoc avr128da64 0x40 = .other ∧
    dataLoc avr128da64 0x15FF = .other ∧ dataLoc avr128da64 0x1600 = .unmapped ∧ dataLoc avr128da64 0x3FFF = .unmapped ∧
    dataLoc avr128da64 0x4000 = .ram ∧ dataLoc avr128da64 0x7FFF = .ram ∧
    dataLoc avr128da64 0x8000 = .progWindow 0 0x8000 ∧ dataLoc avr128da64 0xFFFF = .progWindow 0x7FFF 0x8000 := by decide
theorem inv_pc_one : ({ State.reset with pc := 1#22 } : State).Inv :=
  inv_of rfl (by decide) (by decide) (by decide) (by decide) (by decide) (by decide) rfl
theorem witness_IoRegisters : ({ State.reset with pc := 1#22 } : State).Inv ∧ Config.ConventionalIo State.reset.cfg ∧
    State.reset.cfg.hasRampz = true ∧ State.reset.cfg.hasRampx = false ∧ State.reset.cfg.hasRampy = false ∧
    State.reset.cfg.hasRampd = false ∧ State.reset.cfg.hasEind = false ∧ 0x34 ∉ Config.cpuIo State.reset.cfg :=
  ⟨inv_pc_one, ⟨rfl, rfl, rfl, rfl, rfl, rfl, rfl, rfl⟩, rfl, rfl, rfl, rfl, rfl, by decide⟩
/-- A device with every RAMP register and EIND. -/
theorem witness_IoRegisters_all : ({ State.reset with cfg := classicCfg } : State).Inv ∧
    Config.ConventionalIo classicCfg ∧ classicCfg.hasRampx = true ∧ classicCfg.hasRampy = true ∧ classicCfg.hasRampd = true ∧
    classicCfg.hasEind = true :=
  ⟨⟨⟨by decide, by decide⟩, by decide, by decide, fun _ => rfl, fun _ => rfl, fun _ => rfl, fun _ => rfl, fun _ => rfl, rfl,
    by decide, rfl, by decide, fun _ => .nil, by decide⟩, ⟨rfl, rfl, rfl, rfl, rfl, rfl, rfl, rfl⟩, rfl, rfl, rfl, rfl⟩
theorem witness_IoRegisters_no_rampz :
    ({ State.reset with cfg := { avr128da64 with hasRampz := false } } : State).Inv ∧
    Config.ConventionalIo { avr128da64 with hasRampz := false } :=
  ⟨⟨⟨by decide, by decide⟩, by decide, by decide, fun _ => rfl, fun _ => rfl, fun _ => rfl, fun _ => rfl, fun _ => rfl, rfl,
    by decide, rfl, by decide, fun _ => .nil, by decide⟩, ⟨rfl, rfl, rfl, rfl, rfl, rfl, rfl, rfl⟩⟩
theorem witness_PointerArithmetic : ({ avr128da64 with ptrWidth := .w8 } : Config).ptrWidth = .w8 ∧
    avr128da64.ptrWidth = .w16 ∧ classicCfg.ptrWidth = .w24 := by decide

-- arithmetic
theorem witness_CompareMeansOrder : (∃ t, exec (.cp 11 12) (mk [(11, 0x80), (12, 0x01)] 0) = .next t) ∧
    (∃ t, exec (.subi 16 0xFF) (mk [] 0) = .next t) := ⟨⟨_, rfl⟩, _, rfl⟩
theorem witness_KeptFlags : (∃ t, exec (.inc 7) (mk [(7, 0xFF)] 1) = .next t) ∧ (∃ t, exec (.com 8) (mk [] 0x20) = .next t) ∧
    ∃ t, exec (.add 1 2) (mk [] 0xC0) = .next t := ⟨⟨_, rfl⟩, ⟨_, rfl⟩, _, rfl⟩
theorem witness_MultiByteArithmetic : ([(2, 0), (3, 1)] : List (Reg × Reg)) ≠ [] ∧ Apart [(2, 0), (3, 1)] := by
  refine ⟨by decide, ?_⟩
  unfold Apart
  decide
theorem witness_AliasesAreCanonical : (Instr.cbr 16 0xF0).wellFormed = true ∧ (Instr.lsl 0).wellFormed = true := by decide
theorem witness_IoBitWrite : Config.ConventionalIo avr128da64 := ⟨rfl, rfl, rfl, rfl, rfl, rfl, rfl, rfl⟩

-- change of flow
theorem witness_CallResult : ({ State.reset with pc := 1#22 } : State).Inv ∧
    ({ State.reset with pc := 1#22 } : State).RoomFor avr128da64.retBytes := ⟨inv_pc_one, room _ rfl rfl⟩
/-- Room for a 22-bit return address, the clause with three bytes. -/
theorem witness_CallResult_far : ({ State.reset with cfg := farCfg } : State).Inv ∧ farCfg.retBytes = 3 ∧
    ({ State.reset with cfg := farCfg } : State).RoomFor farCfg.retBytes := by
  refine ⟨⟨⟨by decide, by decide⟩, by decide, by decide, fun _ => rfl, fun _ => rfl, fun _ => rfl, fun _ => rfl, fun _ => rfl,
    rfl, by decide, rfl, by decide, fun _ => .nil, by decide⟩, by decide, by decide, fun j hj => ?_⟩
  have h : j = 0 ∨ j = 1 ∨ j = 2 := by have : j < 3 := hj; omega
  rcases h with rfl | rfl | rfl <;> decide
/-- Three bytes of a return address on the stack. -/
def returning : State := { State.reset with sp := 0x7FFC#16, data := [(0x7FFD, 0x01), (0x7FFE, 0x23), (0x7FFF, 0x46)] }
theorem witness_ReturnResult : ({ returning with sp := 0x7FFD#16 } : State).Inv ∧
    ({ returning with sp := 0x7FFD#16 } : State).Holds 1 0x23 ∧ ({ returning with sp := 0x7FFD#16 } : State).Holds 2 0x46 ∧
    avr128da64.retBytes = 2 :=
  ⟨inv_of rfl (by decide) (by decide) (by decide) (by decide) (by decide) (by decide) rfl, ⟨by decide, by decide⟩,
    ⟨by decide, by decide⟩, by decide⟩
theorem witness_ReturnResult_far : ({ returning with cfg := farCfg } : State).Inv ∧
    ({ returning with cfg := farCfg } : State).Holds 1 0x01 ∧ ({ returning with cfg := farCfg } : State).Holds 2 0x23 ∧
    ({ returning with cfg := farCfg } : State).Holds 3 0x46 ∧ farCfg.retBytes = 3 :=
  ⟨⟨⟨by decide, by decide⟩, by decide, by decide, fun _ => rfl, fun _ => rfl, fun _ => rfl, fun _ => rfl, fun _ => rfl,
    by decide, by decide, rfl, by decide, fun _ => .nil, by decide⟩, ⟨by decide, by decide⟩, ⟨by decide, by decide⟩,
    ⟨by decide, by decide⟩, by decide⟩
/-- The subroutine is the bare RET: the state at it is the state the call left. -/
theorem witness_CallReturnRoundTrip : ({ State.reset with pc := 1#22 } : State).Inv ∧
    ({ State.reset with pc := 1#22 } : State).RoomFor avr128da64.retBytes ∧
    ∃ t u : State, exec (.call 0x2000) { State.reset with pc := 1#22 } = .next t ∧ u.cfg = t.cfg ∧ u.sp = t.sp ∧
      ∀ j < avr128da64.retBytes, u.ramByte (({ State.reset with pc := 1#22 } : State).below j) =
        t.ramByte (({ State.reset with pc := 1#22 } : State).below j) :=
  ⟨inv_pc_one, room _ rfl rfl, _, _, rfl, rfl, rfl, fun _ _ => rfl⟩
theorem witness_SkipResult :
    let s : State := { mk [(4, 5), (0, 5), (1, 6)] 0 with pc := 0xFFFE#22 }
    decide (s.r 4 = s.r 0) = true ∧ decide (s.r 4 = s.r 1) = false ∧ (s.pc.toNat + 1) % 2 ^ s.cfg.pcBits ≤ s.cfg.flashEnd := by
  decide
theorem witness_SkipResult_beyond :
    let s : State := { State.reset with cfg := { avr128da64 with flashEnd := 0xFF }, pc := 0xFF#22 }
    decide (s.r 4 = s.r 0) = true ∧ s.cfg.flashEnd < (s.pc.toNat + 1) % 2 ^ s.cfg.pcBits := by decide
/-- Whatever the oracle answers, one of SBIC and SBIS skips and the other does not; the word after is there, or is not. -/
theorem witness_SkipIoResult :
    let v := (State.reset.ioRead 5).1
    ((!v.getLsbD 0) = true ∧ v.getLsbD 0 = false ∨ (!v.getLsbD 0) = false ∧ v.getLsbD 0 = true) ∧
    (State.reset.pc.toNat + 1) % 2 ^ State.reset.cfg.pcBits ≤ State.reset.cfg.flashEnd ∧
    (let s : State := { State.reset with cfg := { avr128da64 with flashEnd := 0xFF }, pc := 0xFF#22 };
      s.cfg.flashEnd < (s.pc.toNat + 1) % 2 ^ s.cfg.pcBits) := by
  intro v
  refine ⟨?_, by decide, by decide⟩
  cases v.getLsbD 0 <;> simp

-- data transfer
theorem witness_LoadResult :
    let s : State := { mk [(26, 0xFF), (27, 0x7F), (28, 0x00), (29, 0x40)] 0 with data := [(0x7FFF, 0x44)] }
    dataLoc s.cfg (s.ptrGet .x) = .ram ∧ s.ramByte (s.ptrGet .x) = some 0x44 ∧ dataLoc s.cfg (s.ptrGet .y) = .ram ∧
    s.ramByte (s.ptrGet .y) = none ∧ dataLoc s.cfg (s.directAddr 0x003F) = .io 0x3F ∧
    dataLoc s.cfg (s.directAddr 0x0040) = .other ∧ dataLoc s.cfg (s.directAddr 0xFFFF) = .progWindow 0x7FFF 0x8000 ∧
    (s.flashMap.toNat * 0x8000 + 0x7FFF) / 2 ≤ s.cfg.flashEnd ∧ dataLoc s.cfg (s.directAddr 0x3FFF) = .unmapped := by decide
theorem witness_LoadResult_register :
    let s : State := { mk [(26, 0x1F)] 0 with cfg := classicCfg }
    dataLoc s.cfg (s.ptrGet .x) = .reg 31 := by decide
theorem witness_LoadStepping :
    let s : State := { mk [(26, 0xFF), (27, 0x40)] 0 with data := [(0x40FF, 0x77)] }
    Ptr.holds .x 0 = false ∧ (s.cfg.ptrWidth = .w24 → Config.hasRamp s.cfg .x = true) ∧
    ∃ u, s.memRead (s.ptrGet .x) = .next (0x77, u) := ⟨by decide, by decide, _, rfl⟩
theorem witness_LoadStepping_far :
    let s : State := { mk [(28, 0x00), (29, 0x30)] 0 with cfg := classicCfg, data := [(0x2FFF, 0x77)] }
    Ptr.holds .y 0 = false ∧ (s.cfg.ptrWidth = .w24 ∧ Config.hasRamp s.cfg .y = true) ∧
    ∃ u, (s.ptrSet .y (s.ptrDown .y)).memRead (s.ptrDown .y) = .next (0x77, u) := ⟨by decide, by decide, _, rfl⟩
theorem witness_LoadStepping_faults :
    let s : State := mk [(30, 0x00), (31, 0x20)] 0
    Ptr.holds .z 0 = false ∧ s.memRead (s.ptrGet .z) = .fault (.unmappedData 0x2000) := ⟨by decide, rfl⟩
theorem witness_StoreResult :
    let s : State := mk [(26, 0x00), (27, 0x40)] 0
    dataLoc s.cfg (s.ptrGet .x) = .ram ∧ (dataLoc s.cfg (s.directAddr 0) = .io 0 ∧ 0 ∉ Config.cpuIo s.cfg) ∧
    dataLoc s.cfg (s.directAddr 0x3F) = .io s.cfg.sregIo ∧ dataLoc s.cfg (s.directAddr 0x15FF) = .other ∧
    dataLoc s.cfg (s.directAddr 0x8000) = .progWindow 0 0x8000 ∧ dataLoc s.cfg (s.directAddr 0x1600) = .unmapped := by decide
theorem witness_StoreResult_register :
    let s : State := { mk [(26, 0x1F)] 0 with cfg := classicCfg }
    dataLoc s.cfg (s.ptrGet .x) = .reg 31 := by decide
theorem witness_StoreStepping :
    let s : State := mk [(26, 0x00), (27, 0x40), (28, 0x40), (30, 0x00), (31, 0x80)] 0
    Ptr.holds .x 1 = false ∧ (s.cfg.ptrWidth = .w24 → Config.hasRamp s.cfg .x = true) ∧ dataLoc s.cfg (s.ptrGet .x) = .ram ∧
    dataLoc s.cfg (s.ptrDown .x) = .unmapped ∧ dataLoc s.cfg (s.ptrGet .y) = .other ∧
    (dataLoc s.cfg (s.ptrDown .y) = .io 0x3F ∧ 0x3F ∈ Config.cpuIo s.cfg) ∧
    dataLoc s.cfg (s.ptrGet .z) = .progWindow 0 0x8000 ∧ dataLoc s.cfg (s.ptrDown .z) = .ram := by decide
theorem witness_StoreStepping_io_register :
    let s : State := { mk [(26, 0x20), (28, 0x20)] 0 with cfg := classicCfg }
    Ptr.holds .x 1 = false ∧ (s.cfg.ptrWidth = .w24 ∧ Config.hasRamp s.cfg .x = true) ∧
    (dataLoc s.cfg (s.ptrGet .x) = .io 0 ∧ 0 ∉ Config.cpuIo s.cfg) ∧
    dataLoc s.cfg (s.ptrDown .x) = .reg 31 ∧ Ptr.holds .x 31 = false := by decide
theorem witness_ProgramLoad :
    let s : State := mk [(30, 0xFF), (31, 0xFF)] 0
    ((s.r 31).toNat * 256 + (s.r 30).toNat) / 2 ≤ s.cfg.flashEnd ∧ (29 : Reg).val < 30 ∧ s.cfg.hasRampz = true ∧
    (let u : State := { s with rampz := 0x01 };
      (u.getRampz.toNat * 65536 + ((u.r 31).toNat * 256 + (u.r 30).toNat)) / 2 ≤ u.cfg.flashEnd) ∧
    (let u : State := { State.reset with rampz := 0x02 };
      u.cfg.flashEnd < (u.getRampz.toNat * 65536 + ((u.r 31).toNat * 256 + (u.r 30).toNat)) / 2) := by decide
/-- A device of 256 words, below which Z and RAMPZ:Z can point. -/
def smallFlash : State := { mk [(31, 0x02)] 0 with cfg := { avr128da64 with flashEnd := 0x00FF } }
theorem witness_ProgramLoad_beyond : (29 : Reg).val < 30 ∧
    smallFlash.cfg.flashEnd < ((smallFlash.r 31).toNat * 256 + (smallFlash.r 30).toNat) / 2 ∧
    smallFlash.cfg.flashEnd <
      (smallFlash.getRampz.toNat * 65536 + ((smallFlash.r 31).toNat * 256 + (smallFlash.r 30).toNat)) / 2 := by decide
theorem witness_StoreProgram_beyond :
    let s : State := { smallFlash with cfg := { smallFlash.cfg with spmEffect := .writeWord } }
    s.cfg.spmEffect = .writeWord ∧
      s.cfg.flashEnd < (s.getRampz.toNat * 65536 + (s.r 31).toNat * 256 + (s.r 30).toNat) / 2 := by decide
/-- DataReadByClass and LoadResult: a byte of the window beyond FLASHEND. -/
theorem witness_window_beyond : dataLoc smallFlash.cfg (smallFlash.directAddr 0x8200) = .progWindow 0x0200 0x8000 ∧
    smallFlash.cfg.flashEnd < (smallFlash.flashMap.toNat * 0x8000 + 0x0200) / 2 := by decide
theorem witness_StoreStepping_sreg :
    let s := mk [(26, 0x3F)] 0
    Ptr.x.holds 0 = false ∧ dataLoc s.cfg (s.ptrGet .x) = .io s.cfg.sregIo := by decide
theorem witness_StoreStepping_spl :
    let s := mk [(28, 0x3E)] 0
    Ptr.y.holds 0 = false ∧ dataLoc s.cfg (s.ptrDown .y) = .io s.cfg.splIo := by decide
theorem witness_StoreStepping_own_half :
    let s : State := { mk [(30, 30)] 0 with cfg := classicCfg, rampz := 0 }
    let t : State := { mk [(30, 31)] 0 with cfg := classicCfg, rampz := 0 }
    Ptr.z.holds 0 = false ∧ Ptr.z.holds 30 = true ∧ (s.cfg.ptrWidth = .w24 → Config.hasRamp s.cfg .z = true) ∧
      dataLoc s.cfg (s.ptrGet .z) = .reg 30 ∧ dataLoc t.cfg (t.ptrDown .z) = .reg 30 := by decide
-- 20_memory R84: a stack in I/O space, at an unmapped address, in the window onto Flash
theorem test_call_stack_io : gives (exec (.rcall 0) { mk [] 0 with sp := 0x0041, pc := 0x1233 }) (fun t =>
    t.hist == [.write (.other 0x41) 0x34, .write (.other 0x40) 0x12] && t.sp == 0x003F) = true := by decide
theorem test_call_stack_unmapped :
    faults (exec (.rcall 0) { mk [] 0 with sp := 0x1600 }) (.unmappedData 0x1600) = true := by decide
theorem test_interrupt_stack_window : refuses (step { asked 0x80 .level0 with sp := 0x8000 })
    (.deviceDefined "store to mapped Flash") = true := by decide
theorem test_ret_stack_unmapped :
    faults (exec .ret { mk [] 0 with sp := 0x15FF }) (.unmappedData 0x1600) = true := by decide
theorem witness_StoreProgram_device :
    ({ avr128da64 with spmEffect := .device } : Config).spmEffect = .device ∧ avr128da64.hasRampz = true := by decide
theorem witness_StoreProgram : State.reset.cfg.spmEffect = .absent ∧
    (let s : State := { State.reset with cfg := { avr128da64 with spmEffect := .writeWord } };
      Memory.flashWf s.prog = true ∧ s.cfg.spmEffect = .writeWord ∧
      (s.getRampz.toNat * 65536 + (s.r 31).toNat * 256 + (s.r 30).toNat) / 2 ≤ s.cfg.flashEnd ∧ s.cfg.hasRampz = true) := by
  decide
theorem witness_InAndOut : ({ State.reset with pc := 1#22 } : State).Inv ∧ Config.ConventionalIo State.reset.cfg ∧
    (0x34#6).toNat ∉ Config.cpuIo State.reset.cfg ∧ State.reset.cfg.hasRampz = true :=
  ⟨inv_pc_one, ⟨rfl, rfl, rfl, rfl, rfl, rfl, rfl, rfl⟩, by decide, rfl⟩
theorem witness_PushAndPop : ({ returning with pc := 1#22 } : State).Inv ∧ dataLoc returning.cfg returning.sp.toNat = .ram ∧
    (∃ u, returning.memWrite returning.sp.toNat (returning.r 0) = .next u) ∧ returning.Holds 1 0x01 ∧
    (∃ u, (returning.setSp (returning.above 1)).memRead (returning.above 1) = .next (0x01, u)) :=
  ⟨inv_of rfl (by decide) (by decide) (by decide) (by decide) (by decide) (by decide) rfl, by decide, ⟨_, rfl⟩,
    ⟨by decide, by decide⟩, _, rfl⟩
theorem witness_PushAndPop_unmapped : dataLoc avr128da64 ({ State.reset with sp := 0x3FFF#16 } : State).sp.toNat = .unmapped ∧
    dataLoc avr128da64 (({ State.reset with sp := 0x15FF#16 } : State).above 1) = .unmapped := by decide
/-- A stack at the border of two bytes of the window onto Flash, beyond FLASHEND. -/
def stackInWindow : State := { smallFlash with sp := 0x8FFF, flashMap := 1 }
theorem witness_PushAndPop_window : dataLoc stackInWindow.cfg stackInWindow.sp.toNat = .progWindow 0x0FFF 0x8000 ∧
    dataLoc stackInWindow.cfg (stackInWindow.above 1) = .progWindow 0x1000 0x8000 ∧
    stackInWindow.cfg.flashEnd < (stackInWindow.flashMap.toNat * 0x8000 + 0x1000) / 2 ∧
    refuses (andThen (stackInWindow.memWrite stackInWindow.sp.toNat 0x00) fun _ => .next stackInWindow)
      (.deviceDefined "store to mapped Flash") = true ∧
    faults (andThen ((stackInWindow.setSp (stackInWindow.above 1)).memRead (stackInWindow.above 1)) fun p => .next p.2)
      (.unmappedProgram 0x4800) = true := by decide
theorem witness_PushAndPop_memWrite :
    let s : State := { State.reset with sp := 0x3FFF#16 }
    s.memWrite s.sp.toNat (s.r 0) = .fault (.unmappedData 0x3FFF) := rfl
theorem witness_ReadModifyWrite :
    let s : State := { mk [(31, 0x40)] 0 with data := [(0x4000, 0xAA)] }
    (dataLoc s.cfg (s.ptrGet .z) = .ram ∧ ∃ u, s.memRead (s.ptrGet .z) = .next (0xAA, u)) ∧
    (dataLoc State.reset.cfg (State.reset.ptrGet .z) ≠ .ram ∧ dataLoc State.reset.cfg (State.reset.ptrGet .z) ≠ .unmapped) ∧
    dataLoc avr128da64 ((mk [(31, 0x20)] 0).ptrGet .z) = .unmapped :=
  ⟨⟨by decide, _, rfl⟩, ⟨by decide, by decide⟩, by decide⟩

-- MCU control
theorem witness_McuControl : State.reset.cfg.breakEffect = .modelled ∧ State.reset.cfg.sleepEffect = .modelled ∧
    State.reset.cfg.wdrEffect = .modelled ∧
    (let c : Config := { avr128da64 with
        breakEffect := .uninterpreted, sleepEffect := .uninterpreted, wdrEffect := .uninterpreted };
      c.breakEffect = .uninterpreted ∧ c.sleepEffect = .uninterpreted ∧ c.wdrEffect = .uninterpreted) := by decide
theorem witness_TransferKeepsFlags : (∃ t, exec (.ldi 16 1#8) State.reset = .next t) ∧
    (∃ t, exec (.push 0) State.reset = .next t) ∧ dataLoc avr128da64 State.reset.sp.toNat ≠ .io avr128da64.sregIo ∧
    (∃ t, exec (.out 0x3E#6 0) State.reset = .next t) ∧ (0x3E#6).toNat ≠ avr128da64.sregIo ∧
    (∃ t, exec (.sts 0x4000#16 0) State.reset = .next t) :=
  ⟨⟨_, rfl⟩, ⟨_, rfl⟩, by decide, ⟨_, rfl⟩, by decide, ⟨_, rfl⟩⟩

end Sys2Proof.Tests
end

section
/-! The scope (00_scope): which instructions there are, and how a step stops where there is none (R4, R121, R125). -/

namespace Sys2Proof.Machine

/-! ### Decoding at `pc`, where there is no instruction -/

/-- A word that the decoder rejects. -/
theorem decodeAt_eq_fault_of_error {c : Config} {w w1 : Word} {e : Reject} (h : decode c.core w w1 = .error e) :
    decodeAt c w w1 = .fault (.reservedOpcode w) := by
  simp only [decodeAt, h]

/-- A word of an instruction that the core or the device lacks. -/
theorem decodeAt_eq_fault_of_not_available {c : Config} {w w1 : Word} {i : Instr} (h : decode c.core w w1 = .ok i)
    (ha : c.available i = false) : decodeAt c w w1 = .fault (.notAvailable i.mnemonic) := by
  simp [decodeAt, h, ha]

/-- A fault of the first word alone comes before the second word is read (R125, steps 2 to 4). -/
theorem State.fetch_eq_fault {s : State} {w : Word} {f : Fault} (hw : s.progWord s.pc.toNat = .next w)
    (hf : decodeAt s.cfg w 0#16 = .fault f) : s.fetch = .fault f := by
  simp [State.fetch, hw, hf]

/-- A step whose boundary runs an instruction stops where the fetch does. -/
theorem step_eq_fault_of_fetch {s u : State} {f : Fault} (hb : s.boundary = .run u) (hf : u.fetch = .fault f) :
    step s = .fault f := by
  simp [step, hb, hf]

/-! ### What the AVR128DA64 lacks (R4) -/

/-- The column AVRxt of the table of R4: the instructions of AVRxm alone and of AVRrc alone are not in it. -/
theorem avrxt_has_eq_false_iff (i : Instr) : Core.avrxt.has i = false ↔
    i.mnemonic ∈ ["DES", "XCH", "LAS", "LAC", "LAT"] ∨ (∃ d k, i = .ldsRc d k) ∨ ∃ k r, i = .stsRc k r := by
  cases i <;> simp [Core.has, Instr.mnemonic, Core.notReduced, Core.onlyReduced, Core.fromAvre, Core.fromAvrePlus,
    Core.onlyXm, Core.xmOrXt]

/-- The device lacks nothing by Avail and has RAMPZ; its 16-bit PC takes the extended jumps from it. -/
theorem avr128da64_deviceHas_eq_false_iff (i : Instr) :
    avr128da64.deviceHas i = false ↔ i.mnemonic ∈ ["EIJMP", "EICALL"] := by
  have lacks_none (o : DeviceOption) : avr128da64.deviceLacks o = false := by simp [Config.deviceLacks, avr128da64]
  have has_rampz : avr128da64.hasRampz = true := rfl
  have no_extendedJumps : avr128da64.extendedJumps = false := rfl
  cases i <;> simp [Config.deviceHas, Instr.mnemonic, lacks_none, has_rampz, no_extendedJumps]

/-- What R121 lists for the AVR128DA64: what its core lacks, and the extended jumps. -/
theorem avr128da64_available_eq_false_iff (i : Instr) : avr128da64.available i = false ↔
    (i.mnemonic ∈ ["DES", "XCH", "LAS", "LAC", "LAT", "EIJMP", "EICALL"] ∨ (∃ d k, i = .ldsRc d k) ∨
      ∃ k r, i = .stsRc k r) := by
  have split_list : i.mnemonic ∈ ["DES", "XCH", "LAS", "LAC", "LAT", "EIJMP", "EICALL"] ↔
      i.mnemonic ∈ ["DES", "XCH", "LAS", "LAC", "LAT"] ∨ i.mnemonic ∈ ["EIJMP", "EICALL"] := by
    simp only [List.mem_cons, List.not_mem_nil, or_false, or_assoc]
  have core_avrxt : avr128da64.core = .avrxt := rfl
  rw [Config.available, Bool.and_eq_false_iff, core_avrxt, avrxt_has_eq_false_iff, avr128da64_deviceHas_eq_false_iff,
    split_list, or_right_comm]

/-- Settles O7: the fault of the first word goes through the fetch to the step; the list by the core's and the device's
part of availability. -/
theorem noSuchInstruction : Obligations.NoSuchInstruction := by
  refine ⟨fun s u w hb hw => ⟨fun e he => ?_, fun i hi ha => ?_⟩, avr128da64_available_eq_false_iff⟩
  · exact step_eq_fault_of_fetch hb (State.fetch_eq_fault hw (decodeAt_eq_fault_of_error he))
  · exact step_eq_fault_of_fetch hb (State.fetch_eq_fault hw (decodeAt_eq_fault_of_not_available hi ha))

end Sys2Proof.Machine
end

section
/-! The state (10_state): what reset leaves, and the invariant that every step keeps (R25, R29, R30, R404, R405). -/

namespace Sys2Proof.Machine

variable {s t : State}

/-! ### Reset -/

/-- Settles O8: reset leaves the registers at their values, and no byte and no level listed. -/
theorem resetInv : Obligations.ResetInv := by
  show State.reset.Inv
  exact {
    legal := ⟨by decide, by decide⟩
    pc := by decide
    sp := by decide
    rampx := fun _ => rfl
    rampy := fun _ => rfl
    rampz := fun _ => rfl
    rampd := fun _ => rfl
    eind := fun _ => rfl
    dataWf := reset_data_wf
    dataRam := fun _ hc => (List.not_mem_nil hc).elim
    progWf := reset_prog_wf
    progEnd := fun _ hc => (List.not_mem_nil hc).elim
    service := fun _ => .nil
    levels := fun _ hl => (List.not_mem_nil hl).elim }

/-- Settles O11: the fields of State.reset; its RAM lists no byte. -/
theorem resetValues : Obligations.ResetValues := by
  have no_byte : ∀ a, State.reset.ramByte a = none := fun _ => rfl
  exact ⟨rfl, rfl, rfl, rfl, rfl, rfl, rfl, rfl, rfl, rfl, rfl, rfl, no_byte, rfl⟩

/-! ### The boundary keeps the invariant -/

/-- The boundary clears the inhibit, and an interrupt wakes the CPU; the invariant names neither. -/
theorem State.Inv.setInhibitSleeping (h : s.Inv) (x y : Bool) : ({ s with inhibit := x, sleeping := y } : State).Inv :=
  ⟨h.1, h.2, h.3, h.4, h.5, h.6, h.7, h.8, h.9, h.10, h.11, h.12, h.13, h.14⟩

/-- What a boundary that answers has done to the state. -/
theorem State.boundary_cases (s : State) :
    s.boundary = .stopped ∨ s.boundary = .reset s.takeEnv.applyReset ∨
    (∃ n level, s.granted s.envHead = some (n, level) ∧
      s.boundary = .interrupt n level { s.takeEnv with inhibit := false, sleeping := false }) ∨
    s.boundary = .idle { s.takeEnv with inhibit := false } ∨
    s.boundary = .run { s.takeEnv with inhibit := false } := by
  unfold State.boundary
  split
  · exact .inl rfl
  split
  · exact .inr (.inl rfl)
  split
  · rename_i n level hg
    exact .inr (.inr (.inl ⟨n, level, hg, rfl⟩))
  split
  · exact .inr (.inr (.inr (.inl rfl)))
  · exact .inr (.inr (.inr (.inr rfl)))

/-- A granted request has a level of the configuration, above every level in service where levels mask (R404). -/
theorem State.granted_spec {e : EnvEvent} {n : Nat} {level : IrqLevel} (h : s.granted e = some (n, level)) :
    level ∈ s.cfg.levels ∧ (s.cfg.core.masksByLevel = true → ∀ l ∈ s.inService, l.rank < level.rank) := by
  cases e with
  | irq m lv =>
    simp only [State.granted, Option.ite_none_right_eq_some, Bool.and_eq_true, State.maySend, Bool.or_eq_true,
      Bool.not_eq_true', List.all_eq_true, decide_eq_true_eq, List.contains_iff_mem] at h
    obtain ⟨⟨⟨⟨_, hmask⟩, hlevel⟩, _⟩, heq⟩ := h
    cases heq
    exact ⟨hlevel, fun hm => hmask.resolve_left (by simp [hm])⟩
  | quiet => cases h
  | reset => cases h
  | mapFlash q => cases h

/-- The entry of a request above every level in service keeps the levels in falling order (R408, R405). -/
theorem State.Inv.enterIrq (h : s.Inv) {n : Nat} {level : IrqLevel} (hl : level ∈ s.cfg.levels)
    (hr : s.cfg.core.masksByLevel = true → ∀ l ∈ s.inService, l.rank < level.rank)
    (ht : s.enterIrq n level = .next t) : t.Inv := by
  obtain ⟨u, hu, rfl⟩ := State.enterIrq_cases ht
  obtain ⟨hcfg, hservice⟩ := State.pushPc_keeps hu
  have hi := h.pushPc hu
  apply State.Inv.setPc
  refine ⟨hi.1, hi.2, hi.3, hi.4, hi.5, hi.6, hi.7, hi.8, hi.9, hi.10, hi.11, hi.12, ?_, ?_⟩
  · intro hm
    exact List.pairwise_cons.2 ⟨by rw [hservice]; exact hr (hcfg ▸ hm), hi.13 hm⟩
  · intro l hmem
    rcases List.mem_cons.1 hmem with rfl | hmem
    · show l ∈ u.cfg.levels
      rw [hcfg]; exact hl
    · exact hi.14 l hmem

/-! ### Every instruction keeps the invariant -/

theorem State.Inv.ret (h : s.Inv) (ht : execRet s = .next t) : t.Inv := by
  rw [execRet, andThen_eq_next] at ht
  obtain ⟨⟨a, u⟩, hu, ht⟩ := ht
  cases ht
  exact (h.popPc hu).setPc a

theorem State.Inv.reti (h : s.Inv) (ht : execReti s = .next t) : t.Inv := by
  rw [execReti, andThen_eq_next] at ht
  obtain ⟨⟨a, u⟩, hu, ht⟩ := ht
  cases ht
  exact (((h.popPc hu).setPc a).setSreg _).irqReturn

theorem State.Inv.skipIo (h : s.Inv) {a : BitVec 5} {b : BitVec 3} {x : Bool} (ht : skipIo a b x s = .next t) :
    t.Inv := (h.ioRead _).skipIf ht

theorem State.Inv.lpmZInc (h : s.Inv) {d : Reg} (ht : execLpmZInc d s = .next t) : t.Inv := by
  unfold execLpmZInc at ht
  split at ht
  · cases ht
  · rw [andThen_eq_next] at ht
    obtain ⟨v, _, ht⟩ := ht
    cases ht
    exact ((h.setPair _ _).setR _ _).advance _

theorem State.Inv.elpmZInc (h : s.Inv) {d : Reg} (ht : execElpmZInc d s = .next t) : t.Inv := by
  unfold execElpmZInc at ht
  split at ht
  · cases ht
  · rw [andThen_eq_next] at ht
    obtain ⟨v, _, ht⟩ := ht
    cases ht
    exact ((h.setElpmAddr _).setR _ _).advance _

theorem State.Inv.spm (h : s.Inv) (ht : execSpm s = .next t) : t.Inv := by
  rw [execSpm, andThen_eq_next] at ht
  obtain ⟨u, hu, ht⟩ := ht
  cases ht
  exact (h.spmWrite hu).advance _

theorem State.Inv.spmZInc (h : s.Inv) (ht : execSpmZInc s = .next t) : t.Inv := by
  rw [execSpmZInc, andThen_eq_next] at ht
  obtain ⟨u, hu, ht⟩ := ht
  cases ht
  exact ((h.spmWrite hu).setElpmAddr _).advance _

theorem State.Inv.execPush (h : s.Inv) {r : Reg} (ht : execPush r s = .next t) : t.Inv := by
  rw [Machine.execPush, andThen_eq_next] at ht
  obtain ⟨u, hu, ht⟩ := ht
  cases ht
  exact (h.push hu).advance _

theorem State.Inv.execPop (h : s.Inv) {d : Reg} (ht : execPop d s = .next t) : t.Inv := by
  rw [Machine.execPop, andThen_eq_next] at ht
  obtain ⟨⟨v, u⟩, hu, ht⟩ := ht
  cases ht
  exact ((h.pop hu).setR _ _).advance _

theorem State.Inv.brk (h : s.Inv) (ht : execBreak s = .next t) : t.Inv := by
  unfold execBreak at ht
  split at ht <;> cases ht
  apply State.Inv.advance
  exact ⟨h.1, h.2, h.3, h.4, h.5, h.6, h.7, h.8, h.9, h.10, h.11, h.12, h.13, h.14⟩

theorem State.Inv.sleep (h : s.Inv) (ht : execSleep s = .next t) : t.Inv := by
  unfold execSleep at ht
  split at ht <;> cases ht
  apply State.Inv.advance
  exact ⟨h.1, h.2, h.3, h.4, h.5, h.6, h.7, h.8, h.9, h.10, h.11, h.12, h.13, h.14⟩

theorem State.Inv.wdr (h : s.Inv) (ht : execWdr s = .next t) : t.Inv := by
  unfold execWdr at ht
  split at ht <;> cases ht
  exact (h.event _).advance 1

/-- Every instruction keeps the invariant, by the operation that gives it its meaning. -/
theorem State.Inv.exec (h : s.Inv) {i : Instr} (ht : exec i s = .next t) : t.Inv := by
  cases i with
  | add | adc | sub | subi | sbc | sbci | and | andi | or | ori | eor | com | neg | sbr | cbr | inc | dec | clr | lsl
  | lsr | rol | ror | asr => exact h.writeAlu ht
  | adiw | sbiw => exact h.writeAlu16 ht
  | mul | muls | mulsu | fmul | fmuls | fmulsu => exact h.writeProduct ht
  | cp | cpc | cpi => exact h.compareAlu ht
  | tst | bst => cases ht; exact (h.setSreg _).advance _
  | ser | mov | ldi | swap | bld => cases ht; exact (h.setR _ _).advance _
  | movw => cases ht; exact (h.setPair _ _).advance _
  | des => cases ht; exact (h.setBlock _).advance _
  | rjmp | ijmp | eijmp | jmp => cases ht; exact h.setPc _
  | rcall | icall | eicall | call => exact h.callTo ht
  | ret => exact h.ret ht
  | reti => exact h.reti ht
  | cpse | sbrc | sbrs => exact h.skipIf ht
  | sbic | sbis => exact h.skipIo ht
  | brbs | brbc | breq | brne | brcs | brcc | brsh | brlo | brmi | brpl | brge | brlt | brhs | brhc | brts | brtc | brvs
  | brvc | brie | brid => exact h.branchIf ht
  | lds | ldsRc | ldX | ldY | lddY | ldZ | lddZ => exact h.loadAt ht
  | ldXInc | ldYInc | ldZInc => exact h.loadInc ht
  | ldXDec | ldYDec | ldZDec => exact h.loadDec ht
  | sts | stsRc | stX | stY | stdY | stZ | stdZ => exact h.storeAt ht
  | stXInc | stYInc | stZInc => exact h.storeInc ht
  | stXDec | stYDec | stZDec => exact h.storeDec ht
  | lpmR0 | lpmZ | elpmR0 | elpmZ => exact h.loadProg ht
  | lpmZInc => exact h.lpmZInc ht
  | elpmZInc => exact h.elpmZInc ht
  | spm => exact h.spm ht
  | spmZInc => exact h.spmZInc ht
  | inIo => cases ht; exact ((h.ioRead _).setR _ _).advance _
  | out => cases ht; exact (h.ioWrite _ _).advance _
  | push => exact h.execPush ht
  | pop => exact h.execPop ht
  | xch | las | lac | lat => simp only [Machine.exec, execXch, execLas, execLac, execLat] at ht; exact h.rmw ht
  | sbi | cbi => exact h.writeIoBit ht
  | bset | bclr | sec | clc | sen | cln | sez | clz | sei | cli | ses | cls | sev | clv | set | clt | seh | clh =>
    exact h.writeFlag ht
  | brk => exact h.brk ht
  | nop => cases ht; exact h.advance _
  | sleep => exact h.sleep ht
  | wdr => exact h.wdr ht

/-! ### Every step keeps the invariant -/

/-- Settles O9: the boundary keeps the invariant, and so does what the step then does (State.Inv.enterIrq,
State.Inv.exec); the cycles are no part of it. -/
theorem stepKeepsInv : Obligations.StepKeepsInv := by
  intro s t h ht
  have hb := s.boundary_cases
  rcases step_cases ht with ⟨u, eb, rfl⟩ | ⟨n, level, u, v, eb, hv, rfl⟩ | ⟨u, eb, rfl⟩ | ⟨u, i, v, eb, _, hv, rfl⟩ <;>
    simp only [eb, reduceCtorEq, false_or, or_false, Boundary.reset.injEq, Boundary.interrupt.injEq,
      Boundary.idle.injEq, Boundary.run.injEq, and_false, exists_false] at hb
  · subst hb
    exact h.takeEnv.applyReset.charge _
  · obtain ⟨n, level, hg, rfl, rfl, rfl⟩ := hb
    obtain ⟨hl, hr⟩ := State.granted_spec hg
    exact ((h.takeEnv.setInhibitSleeping _ _).enterIrq hl hr hv).charge _
  · subst hb
    exact (h.takeEnv.setInhibitSleeping _ _).charge _
  · subst hb
    exact ((h.takeEnv.setInhibitSleeping _ _).exec hv).charge _

end Sys2Proof.Machine
end

section
/-! I/O space and data space: what a read gives and a write does, for each CPU register at its conventional address
(10_state R33) and for each class of data address (20_memory R70 to R72). -/

namespace Sys2Proof.Machine

variable {s u : State} {a n o : Nat} {i : Reg}

/-! ### Bytes of a word -/

theorem byteAppend_toNat (x y : Byte) : (x ++ y).toNat = x.toNat * 256 + y.toNat := by
  rw [BitVec.toNat_append, ← Nat.shiftLeft_add_eq_or_of_lt y.isLt, Nat.shiftLeft_eq]

theorem lowByte_toNat (w : BitVec 16) : (w.extractLsb' 0 8).toNat = w.toNat % 256 := by
  rw [BitVec.extractLsb'_toNat, Nat.shiftRight_zero]

theorem highByte_toNat (w : BitVec 16) : (w.extractLsb' 8 8).toNat = w.toNat / 256 := by
  have := w.isLt
  rw [BitVec.extractLsb'_toNat, Nat.shiftRight_eq_div_pow]
  omega

/-! ### The CPU registers in I/O space (10_state R33) -/

section Conventional
variable (hc : Config.ConventionalIo s.cfg) (v : Byte)
include hc

theorem State.ioRead_sreg : s.ioRead 0x3F = (s.sreg, s) := by simp [State.ioRead, hc.sreg]

theorem State.ioWrite_sreg : s.ioWrite 0x3F v = s.storeSreg v := by simp [State.ioWrite, hc.sreg]

theorem State.ioRead_spl : s.ioRead 0x3D = (s.sp.extractLsb' 0 8, s) := by simp [State.ioRead, hc.sreg, hc.spl]

theorem State.ioWrite_spl : s.ioWrite 0x3D v = s.setSp (s.sp.extractLsb' 8 8 ++ v).toNat := by
  simp [State.ioWrite, hc.sreg, hc.spl]

theorem State.ioRead_sph : s.ioRead 0x3E = (s.sp.extractLsb' 8 8, s) := by
  simp [State.ioRead, hc.sreg, hc.spl, hc.sph]

theorem State.ioWrite_sph : s.ioWrite 0x3E v = s.setSp (v ++ s.sp.extractLsb' 0 8).toNat := by
  simp [State.ioWrite, hc.sreg, hc.spl, hc.sph]

theorem State.ioRead_rampd (h : s.cfg.hasRampd = true) : s.ioRead 0x38 = (s.rampd, s) := by
  simp [State.ioRead, hc.sreg, hc.spl, hc.sph, hc.rampd, h]

theorem State.ioWrite_rampd (h : s.cfg.hasRampd = true) : s.ioWrite 0x38 v = s.setRampd v := by
  simp [State.ioWrite, hc.sreg, hc.spl, hc.sph, hc.rampd, h]

theorem State.ioRead_rampx (h : s.cfg.hasRampx = true) : s.ioRead 0x39 = (s.rampx, s) := by
  simp [State.ioRead, hc.sreg, hc.spl, hc.sph, hc.rampd, hc.rampx, h]

theorem State.ioWrite_rampx (h : s.cfg.hasRampx = true) : s.ioWrite 0x39 v = s.setRampx v := by
  simp [State.ioWrite, hc.sreg, hc.spl, hc.sph, hc.rampd, hc.rampx, h]

theorem State.ioRead_rampy (h : s.cfg.hasRampy = true) : s.ioRead 0x3A = (s.rampy, s) := by
  simp [State.ioRead, hc.sreg, hc.spl, hc.sph, hc.rampd, hc.rampx, hc.rampy, h]

theorem State.ioWrite_rampy (h : s.cfg.hasRampy = true) : s.ioWrite 0x3A v = s.setRampy v := by
  simp [State.ioWrite, hc.sreg, hc.spl, hc.sph, hc.rampd, hc.rampx, hc.rampy, h]

theorem State.ioRead_rampz (h : s.cfg.hasRampz = true) : s.ioRead 0x3B = (s.rampz, s) := by
  simp [State.ioRead, hc.sreg, hc.spl, hc.sph, hc.rampd, hc.rampx, hc.rampy, hc.rampz, h]

theorem State.ioWrite_rampz (h : s.cfg.hasRampz = true) : s.ioWrite 0x3B v = s.setRampz v := by
  simp [State.ioWrite, hc.sreg, hc.spl, hc.sph, hc.rampd, hc.rampx, hc.rampy, hc.rampz, h]

theorem State.ioRead_eind (h : s.cfg.hasEind = true) : s.ioRead 0x3C = (s.eind, s) := by
  simp [State.ioRead, hc.sreg, hc.spl, hc.sph, hc.rampd, hc.rampx, hc.rampy, hc.rampz, hc.eind, h]

theorem State.ioWrite_eind (h : s.cfg.hasEind = true) : s.ioWrite 0x3C v = s.setEind v := by
  simp [State.ioWrite, hc.sreg, hc.spl, hc.sph, hc.rampd, hc.rampx, hc.rampy, hc.rampz, hc.eind, h]

/-- A write of SPL changes the low byte of SP alone (10_state R29). -/
theorem State.ioWrite_spl_sp (h : s.Inv) :
    (s.ioWrite 0x3D v).sp.toNat = (s.sp.toNat / 256 * 256 + v.toNat) % 2 ^ s.cfg.spBits := by
  rw [State.ioWrite_spl hc, State.setSp_toNat h.legal.spBits, byteAppend_toNat, highByte_toNat]

/-- A write of SPH changes the high byte of SP alone (10_state R29). -/
theorem State.ioWrite_sph_sp (h : s.Inv) :
    (s.ioWrite 0x3E v).sp.toNat = (v.toNat * 256 + s.sp.toNat % 256) % 2 ^ s.cfg.spBits := by
  rw [State.ioWrite_sph hc, State.setSp_toNat h.legal.spBits, byteAppend_toNat, lowByte_toNat]

/-- SREG at its address: read, written, frame. -/
theorem State.sreg_io : s.ioRead 0x3F = (s.sreg, s) ∧ (s.ioWrite 0x3F v).sreg = v ∧
    s.OnlyChanges (s.ioWrite 0x3F v) [.sreg, .inhibit] := by
  rw [State.ioWrite_sreg hc]
  exact ⟨State.ioRead_sreg hc, rfl, (State.OnlyChanges.refl _ _).storeSreg (by simp) (by simp)⟩

theorem State.ioWrite_spl_frame : s.OnlyChanges (s.ioWrite 0x3D v) [.sp] := by
  rw [State.ioWrite_spl hc]
  exact (State.OnlyChanges.refl _ _).setSp (by simp)

theorem State.ioWrite_sph_frame : s.OnlyChanges (s.ioWrite 0x3E v) [.sp] := by
  rw [State.ioWrite_sph hc]
  exact (State.OnlyChanges.refl _ _).setSp (by simp)

/-- RAMPZ at its address, on a device that has it: read, written, frame. So for the registers below. -/
theorem State.rampz_io (h : s.cfg.hasRampz = true) : s.ioRead 0x3B = (s.rampz, s) ∧ (s.ioWrite 0x3B v).rampz = v ∧
    s.OnlyChanges (s.ioWrite 0x3B v) [.rampz] := by
  rw [State.ioWrite_rampz hc v h]
  exact ⟨State.ioRead_rampz hc h, if_pos h, (State.OnlyChanges.refl _ _).setRampz (by simp)⟩

theorem State.rampx_io (h : s.cfg.hasRampx = true) : s.ioRead 0x39 = (s.rampx, s) ∧ (s.ioWrite 0x39 v).rampx = v ∧
    s.OnlyChanges (s.ioWrite 0x39 v) [.rampx] := by
  rw [State.ioWrite_rampx hc v h]
  exact ⟨State.ioRead_rampx hc h, if_pos h, (State.OnlyChanges.refl _ _).setRampx (by simp)⟩

theorem State.rampy_io (h : s.cfg.hasRampy = true) : s.ioRead 0x3A = (s.rampy, s) ∧ (s.ioWrite 0x3A v).rampy = v ∧
    s.OnlyChanges (s.ioWrite 0x3A v) [.rampy] := by
  rw [State.ioWrite_rampy hc v h]
  exact ⟨State.ioRead_rampy hc h, if_pos h, (State.OnlyChanges.refl _ _).setRampy (by simp)⟩

theorem State.rampd_io (h : s.cfg.hasRampd = true) : s.ioRead 0x38 = (s.rampd, s) ∧ (s.ioWrite 0x38 v).rampd = v ∧
    s.OnlyChanges (s.ioWrite 0x38 v) [.rampd] := by
  rw [State.ioWrite_rampd hc v h]
  exact ⟨State.ioRead_rampd hc h, if_pos h, (State.OnlyChanges.refl _ _).setRampd (by simp)⟩

theorem State.eind_io (h : s.cfg.hasEind = true) : s.ioRead 0x3C = (s.eind, s) ∧ (s.ioWrite 0x3C v).eind = v ∧
    s.OnlyChanges (s.ioWrite 0x3C v) [.eind] := by
  rw [State.ioWrite_eind hc v h]
  exact ⟨State.ioRead_eind hc h, if_pos h, (State.OnlyChanges.refl _ _).setEind (by simp)⟩

/-- The five-bit address of SBI, CBI, SBIC and SBIS does not reach the CPU registers (10_state R33). -/
theorem Config.low_not_mem_cpuIo (h : a < 0x38) : a ∉ Config.cpuIo s.cfg := by
  rw [Config.mem_cpuIo, hc.sreg, hc.spl, hc.sph, hc.rampd, hc.rampx, hc.rampy, hc.rampz, hc.eind]
  omega

end Conventional

/-! ### A register the device has not (10_state R30) -/

section Absent
variable (v : Byte)

theorem State.rampx_absent (h : s.cfg.hasRampx = false) : s.getRampx = 0#8 ∧ s.setRampx v = s := by
  simp [State.getRampx, State.setRampx, h]

theorem State.rampy_absent (h : s.cfg.hasRampy = false) : s.getRampy = 0#8 ∧ s.setRampy v = s := by
  simp [State.getRampy, State.setRampy, h]

theorem State.rampz_absent (h : s.cfg.hasRampz = false) : s.getRampz = 0#8 ∧ s.setRampz v = s := by
  simp [State.getRampz, State.setRampz, h]

theorem State.rampd_absent (h : s.cfg.hasRampd = false) : s.getRampd = 0#8 ∧ s.setRampd v = s := by
  simp [State.getRampd, State.setRampd, h]

theorem State.eind_absent (h : s.cfg.hasEind = false) : s.getEind = 0#8 ∧ s.setEind v = s := by
  simp [State.getEind, State.setEind, h]

end Absent

/-- Settles O22: by register, its read and its write at its address; the other addresses are the oracle's; a register
the device has not reads as zero and its write changes nothing. -/
theorem ioRegisters : Obligations.IoRegisters := by
  intro s v h hc
  have spl_read : (s.ioRead 0x3D).1.toNat = s.sp.toNat % 256 := by rw [State.ioRead_spl hc, lowByte_toNat]
  have sph_read : (s.ioRead 0x3E).1.toNat = s.sp.toNat / 256 := by rw [State.ioRead_sph hc, highByte_toNat]
  exact ⟨State.sreg_io hc v,
    ⟨spl_read, sph_read, State.ioWrite_spl_sp hc v h, State.ioWrite_sph_sp hc v h, State.ioWrite_spl_frame hc v,
      State.ioWrite_sph_frame hc v⟩,
    State.rampz_io hc v, State.rampx_io hc v, State.rampy_io hc v, State.rampd_io hc v, State.eind_io hc v,
    fun a ha => ⟨State.ioRead_oracle ha, State.ioWrite_oracle v ha⟩,
    State.rampx_absent v, State.rampy_absent v, State.rampz_absent v, State.rampd_absent v, State.eind_absent v⟩

/-! ### A read of data space by the class of the address (20_memory R70) -/

theorem State.memRead_ram_unwritten (h : dataLoc s.cfg a = .ram) (hv : s.ramByte a = none) :
    s.memRead a = .next (Config.ramDraw s.draws, { s with draws := s.draws + 1 }) := by
  have hv' : Memory.lookup a s.data = none := hv
  simp only [State.memRead, h, State.ramRead, hv']

theorem State.memRead_reg (h : dataLoc s.cfg a = .reg i) : s.memRead a = .next (s.r i, s) := by
  simp only [State.memRead, h]

theorem State.memRead_io (h : dataLoc s.cfg a = .io n) : s.memRead a = .next (s.ioRead n) := by
  simp only [State.memRead, h]

/-- The window shows the byte of program space that flashMap picks (R74), up to FLASHEND (R64). -/
theorem State.memRead_window (h : dataLoc s.cfg a = .progWindow o n) :
    s.memRead a = if s.cfg.flashEnd < (s.flashMap.toNat * n + o) / 2
      then .fault (.unmappedProgram ((s.flashMap.toNat * n + o) / 2))
      else .next (s.prog.flashByte (s.flashMap.toNat * n + o), s) := by
  simp only [State.memRead, h, State.progByte_eq, State.windowByte]
  split <;> rfl

theorem State.memRead_window_within (h : dataLoc s.cfg a = .progWindow o n)
    (hb : (s.flashMap.toNat * n + o) / 2 ≤ s.cfg.flashEnd) :
    s.memRead a = .next (s.prog.flashByte (s.flashMap.toNat * n + o), s) := by
  rw [State.memRead_window h, if_neg (by omega)]

theorem State.memRead_window_beyond (h : dataLoc s.cfg a = .progWindow o n)
    (hb : s.cfg.flashEnd < (s.flashMap.toNat * n + o) / 2) :
    s.memRead a = .fault (.unmappedProgram ((s.flashMap.toNat * n + o) / 2)) := by
  rw [State.memRead_window h, if_pos hb]

theorem State.memRead_other (h : dataLoc s.cfg a = .other) :
    s.memRead a = .next (Config.ioAnswer s.hist (.other a), s.event (.read (.other a))) := by
  simp only [State.memRead, h, State.oracleRead]

theorem State.memRead_unmapped (h : dataLoc s.cfg a = .unmapped) : s.memRead a = .fault (.unmappedData a) := by
  simp only [State.memRead, h]

/-! ### A write of data space by the class of the address (20_memory R71) -/

section Write
variable (v : Byte)

theorem State.memWrite_reg (h : dataLoc s.cfg a = .reg i) : s.memWrite a v = .next (s.setR i v) := by
  simp only [State.memWrite, h]

theorem State.memWrite_io (h : dataLoc s.cfg a = .io n) : s.memWrite a v = .next (s.ioWrite n v) := by
  simp only [State.memWrite, h]

theorem State.memWrite_window (h : dataLoc s.cfg a = .progWindow o n) :
    s.memWrite a v = .refused (.deviceDefined "store to mapped Flash") := by
  simp only [State.memWrite, h]

theorem State.memWrite_other (h : dataLoc s.cfg a = .other) :
    s.memWrite a v = .next (s.event (.write (.other a) v)) := by
  simp only [State.memWrite, h, State.oracleWrite]

theorem State.memWrite_unmapped (h : dataLoc s.cfg a = .unmapped) :
    s.memWrite a v = .fault (.unmappedData a) := by
  simp only [State.memWrite, h]

end Write

/-- A byte of RAM reads as what was written to it. -/
theorem State.ramByte_ramWrite (s : State) (a : Nat) (v : Byte) : (s.ramWrite a v).ramByte a = some v := by
  rw [State.ramByte, State.ramWrite_data, Memory.lookup_insert, if_pos rfl]

/-- Settles O20: each class by its read and its write; what a write changes is the frame of the part written. -/
theorem dataReadByClass : Obligations.DataReadByClass := by
  intro s a
  refine ⟨fun v h hv => State.memRead_ram h hv, State.memRead_ram_unwritten, fun i => State.memRead_reg,
    fun p => State.memRead_io, fun o n => State.memRead_window_within, fun o n => State.memRead_window_beyond,
    State.memRead_other, State.memRead_unmapped, fun v => ⟨fun h => ?_, fun i h => ?_, fun p => State.memWrite_io v,
    fun o n => State.memWrite_window v, State.memWrite_other v, State.memWrite_unmapped v⟩⟩
  · exact ⟨_, State.memWrite_ram v h, State.ramByte_ramWrite s a v, rfl,
      (State.OnlyChanges.refl _ _).ramWrite (by simp)⟩
  · exact ⟨_, State.memWrite_reg v h, State.setR_r_self s i v, rfl, (State.OnlyChanges.refl _ _).setR (by simp)⟩

/-! ### IN, OUT, SBI and CBI (42_data_transfer R299, R300; 43_bit_and_bit_test R346, R347) -/

/-- The PC past an instruction's words, counted from a state with the same PC. -/
theorem State.advance_pc_eq (hp : u.pc = s.pc) (hc : u.cfg = s.cfg) (n : Nat) : (u.advance n).pc = s.pcPlus n := by
  rw [State.advance_pc, hp, hc]; rfl

theorem State.ioWrite_advance_pc (s : State) (a : Nat) (v : Byte) (n : Nat) :
    ((s.ioWrite a v).advance n).pc = s.pcPlus n :=
  State.advance_pc_eq (State.ioWrite_pc s a v).1 (State.ioWrite_pc s a v).2 n

theorem exec_out (s : State) (a : BitVec 6) (r : Reg) :
    exec (.out a r) s = .next ((s.ioWrite a.toNat (s.r r)).advance 1) := rfl

/-- Settles O57: IN is one I/O read and a write of the register, OUT one I/O write, by its address. -/
theorem inAndOut : Obligations.InAndOut := by
  intro s d a h hc
  refine ⟨⟨_, rfl, State.setR_r_self _ d _, State.ioRead_hist s a.toNat, ?_, ?_⟩,
    ⟨_, rfl, State.ioWrite_advance_pc s _ _ 1, (State.OnlyChanges.refl _ _).advance⟩, fun ha => ?_, ?_, ?_, ?_, ?_⟩
  · exact State.advance_pc_eq (State.ioRead_pc s a.toNat).1 (State.ioRead_pc s a.toNat).2 1
  · exact (((State.OnlyChanges.refl _ _).ioRead (by simp)).setR (by simp)).advance
  · rw [exec_out, State.ioWrite_oracle _ ha]
    exact ⟨_, rfl, rfl, rfl, ((State.OnlyChanges.refl _ _).event (by simp)).advance⟩
  · rintro rfl
    obtain ⟨_, hsreg, hframe⟩ := State.sreg_io hc (s.r d)
    have hinhibit : (s.ioWrite 0x3F (s.r d)).inhibit =
        (s.inhibit || (!flagI s.sreg && flagI (s.ioWrite 0x3F (s.r d)).sreg)) := by rw [State.ioWrite_sreg hc]; rfl
    exact ⟨_, rfl, hsreg, hinhibit, State.ioWrite_advance_pc s _ _ 1, hframe.advance⟩
  · rintro rfl
    exact ⟨_, rfl, State.ioWrite_sph_sp hc (s.r d) h, State.ioWrite_advance_pc s _ _ 1,
      (State.ioWrite_sph_frame hc (s.r d)).advance⟩
  · rintro rfl
    exact ⟨_, rfl, State.ioWrite_spl_sp hc (s.r d) h, State.ioWrite_advance_pc s _ _ 1,
      (State.ioWrite_spl_frame hc (s.r d)).advance⟩
  · rintro rfl hz
    obtain ⟨_, hrampz, hframe⟩ := State.rampz_io hc (s.r d) hz
    exact ⟨_, rfl, hrampz, State.ioWrite_advance_pc s _ _ 1, hframe.advance⟩

/-- SBI and CBI below the CPU registers: the oracle's byte goes back with one bit put (R346, R347). -/
theorem writeIoBit_oracle {a : BitVec 5} (b : BitVec 3) (x : Bool) (h : a.toNat ∉ Config.cpuIo s.cfg) :
    writeIoBit a b x s = .next (((s.event (.read (.io a.toNat))).event
      (.write (.io a.toNat) (putBit (Config.ioAnswer s.hist (.io a.toNat)) b x))).advance 1) := by
  have h' : a.toNat ∉ Config.cpuIo (s.event (.read (.io a.toNat))).cfg := h
  rw [writeIoBit, State.ioRead_oracle h, State.ioWrite_oracle _ h']

/-- Settles O40: SBI and CBI are writeIoBit, and their addresses are the oracle's. -/
theorem ioBitWrite : Obligations.IoBitWrite := by
  intro s a b hc p hp
  have hexec : exec p.1 s = writeIoBit a b p.2 s := by
    simp only [List.mem_cons, List.not_mem_nil, or_false] at hp
    rcases hp with rfl | rfl <;> rfl
  rw [hexec, writeIoBit_oracle b p.2 (Config.low_not_mem_cpuIo hc (by have := a.isLt; omega))]
  exact ⟨_, _, rfl, fun j hj => putBit_bit _ b p.2 j hj, by simp, rfl,
    (((State.OnlyChanges.refl _ _).event (by simp)).event (by simp)).advance⟩

end Sys2Proof.Machine
end

section
/-! The flags that the arithmetic and logic instructions keep (10_state R28, 40_arithmetic_logic R176). -/

namespace Sys2Proof.Machine

variable {s t : State} {i : Instr} (d r : Reg) (k : BitVec 8) (k6 : BitVec 6) (k4 : BitVec 4)

/-! ### The instructions by the flags they write -/

/-- Those that write H S V N Z C. -/
def writesHSVNZC : List Instr := [.add d r, .adc d r, .sub d r, .subi d k, .sbc d r, .sbci d k, .neg d]

/-- Those that write S V N Z. -/
def writesSVNZ : List Instr :=
  [.and d r, .andi d k, .or d r, .ori d k, .eor d r, .sbr d k, .cbr d k, .inc d, .dec d, .tst d, .clr d]

/-- Those on a pair, which write S V N Z C. -/
def writesPairSVNZC : List Instr := [.adiw d k6, .sbiw d k6]

/-- The multiplies, which write Z C. -/
def writesZC : List Instr := [.mul d r, .muls d r, .mulsu d r, .fmul d r, .fmuls d r, .fmulsu d r]

/-- Those that write no flag. -/
def writesNone : List Instr := [.ser d, .des k4]

/-! ### SREG after each of them -/

variable {d r k k6 k4}

theorem sreg_of_writesHSVNZC (hi : i ∈ writesHSVNZC d r k) (h : exec i s = .next t) :
    ∃ f, t.sreg = putHSVNZC s.sreg f := by
  simp only [writesHSVNZC, List.mem_cons, List.not_mem_nil, or_false] at hi
  rcases hi with rfl | rfl | rfl | rfl | rfl | rfl | rfl
  all_goals cases h; exact ⟨_, rfl⟩

theorem sreg_of_writesSVNZ (hi : i ∈ writesSVNZ d r k) (h : exec i s = .next t) : ∃ f, t.sreg = putSVNZ s.sreg f := by
  simp only [writesSVNZ, List.mem_cons, List.not_mem_nil, or_false] at hi
  rcases hi with rfl | rfl | rfl | rfl | rfl | rfl | rfl | rfl | rfl | rfl | rfl
  all_goals cases h; exact ⟨_, rfl⟩

theorem sreg_of_writesPairSVNZC (hi : i ∈ writesPairSVNZC d k6) (h : exec i s = .next t) :
    ∃ f, t.sreg = putSVNZC16 s.sreg f := by
  simp only [writesPairSVNZC, List.mem_cons, List.not_mem_nil, or_false] at hi
  rcases hi with rfl | rfl
  all_goals cases h; exact ⟨_, rfl⟩

theorem sreg_of_writesZC (hi : i ∈ writesZC d r) (h : exec i s = .next t) : ∃ f, t.sreg = putZC16 s.sreg f := by
  simp only [writesZC, List.mem_cons, List.not_mem_nil, or_false] at hi
  rcases hi with rfl | rfl | rfl | rfl | rfl | rfl
  all_goals cases h; exact ⟨_, rfl⟩

theorem sreg_of_com (h : exec (.com d) s = .next t) : ∃ f, t.sreg = putSVNZC s.sreg f := by
  cases h; exact ⟨_, rfl⟩

/-- R15:R0 is a block of general registers. -/
theorem State.setBlock_sreg (s : State) (b : BitVec 128) : (s.setBlock b).sreg = s.sreg :=
  ((State.OnlyChanges.refl s (lowRegs.map Part.reg)).setBlock fun _ hj => List.mem_map_of_mem hj).sreg (by decide)

theorem exec_des (s : State) (k4 : BitVec 4) :
    exec (.des k4) s = .next ((s.setBlock (Config.desRound s.block k4 (flagH s.sreg))).advance 1) := rfl

theorem sreg_of_writesNone (hi : i ∈ writesNone d k4) (h : exec i s = .next t) : t.sreg = s.sreg := by
  simp only [writesNone, List.mem_cons, List.not_mem_nil, or_false] at hi
  rcases hi with rfl | rfl
  · cases h; rfl
  · rw [exec_des, Host.Outcome.next.injEq] at h
    rw [← h, State.advance_sreg, State.setBlock_sreg]

/-! ### What is kept -/

/-- C is kept by those that write S V N Z, and by those that write no flag. -/
theorem keeps_flagC (hi : i ∈ writesSVNZ d r k ++ writesNone d k4) (h : exec i s = .next t) :
    flagC t.sreg = flagC s.sreg := by
  rcases List.mem_append.1 hi with hi | hi
  · obtain ⟨f, e⟩ := sreg_of_writesSVNZ hi h
    rw [e, putSVNZ, flagC_sregOf]
  · rw [sreg_of_writesNone hi h]

/-- H is kept by all but those that write H S V N Z C. -/
theorem keeps_flagH (hi : i ∈ writesSVNZ d r k ∨ i ∈ writesPairSVNZC d k6 ∨ i ∈ writesZC d r ∨ i = .com d ∨
    i ∈ writesNone d k4) (h : exec i s = .next t) : flagH t.sreg = flagH s.sreg := by
  rcases hi with hi | hi | hi | rfl | hi
  · obtain ⟨f, e⟩ := sreg_of_writesSVNZ hi h
    rw [e, putSVNZ, flagH_sregOf]
  · obtain ⟨f, e⟩ := sreg_of_writesPairSVNZC hi h
    rw [e, putSVNZC16, flagH_sregOf]
  · obtain ⟨f, e⟩ := sreg_of_writesZC hi h
    rw [e, putZC16, flagH_sregOf]
  · obtain ⟨f, e⟩ := sreg_of_com h
    rw [e, putSVNZC, flagH_sregOf]
  · rw [sreg_of_writesNone hi h]

/-- T and I are kept by all. -/
theorem keeps_flagT_flagI (hi : i ∈ writesHSVNZC d r k ∨ i ∈ writesSVNZ d r k ∨ i ∈ writesPairSVNZC d k6 ∨
    i ∈ writesZC d r ∨ i = .com d ∨ i ∈ writesNone d k4) (h : exec i s = .next t) :
    flagT t.sreg = flagT s.sreg ∧ flagI t.sreg = flagI s.sreg := by
  rcases hi with hi | hi | hi | hi | rfl | hi
  · obtain ⟨f, e⟩ := sreg_of_writesHSVNZC hi h
    rw [e, putHSVNZC, flagT_sregOf, flagI_sregOf]; exact ⟨rfl, rfl⟩
  · obtain ⟨f, e⟩ := sreg_of_writesSVNZ hi h
    rw [e, putSVNZ, flagT_sregOf, flagI_sregOf]; exact ⟨rfl, rfl⟩
  · obtain ⟨f, e⟩ := sreg_of_writesPairSVNZC hi h
    rw [e, putSVNZC16, flagT_sregOf, flagI_sregOf]; exact ⟨rfl, rfl⟩
  · obtain ⟨f, e⟩ := sreg_of_writesZC hi h
    rw [e, putZC16, flagT_sregOf, flagI_sregOf]; exact ⟨rfl, rfl⟩
  · obtain ⟨f, e⟩ := sreg_of_com h
    rw [e, putSVNZC, flagT_sregOf, flagI_sregOf]; exact ⟨rfl, rfl⟩
  · rw [sreg_of_writesNone hi h]; exact ⟨rfl, rfl⟩

/-- Settles O34: each of its three lists is made of the lists above. -/
theorem keptFlags : Obligations.KeptFlags := by
  intro s t d r k k6 k4 i h
  refine ⟨fun hi => keeps_flagC hi h, fun hi => ?_, fun hi => ?_⟩
  · refine keeps_flagH (d := d) (r := r) (k := k) (k6 := k6) (k4 := k4) ?_ h
    simp only [writesSVNZ, writesPairSVNZC, writesZC, writesNone, List.mem_cons, List.not_mem_nil, or_false] at hi ⊢
    grind
  · refine keeps_flagT_flagI (d := d) (r := r) (k := k) (k6 := k6) (k4 := k4) ?_ h
    simp only [writesHSVNZC, writesSVNZ, writesPairSVNZC, writesZC, writesNone, List.mem_cons, List.not_mem_nil,
      or_false] at hi ⊢
    grind

end Sys2Proof.Machine
end

section
/-! Loads and stores by the class of their address (42_data_transfer R265 to R289; 20_memory R70, R71). -/

namespace Sys2Proof.Machine

variable {s t u : State} {a n : Nat} {i r : Reg} {p : Ptr} {v : Byte} {ps : List Part}

/-! ### Loads that leave the pointer alone -/

theorem State.OnlyChanges.draw (h : s.OnlyChanges t ps) (m : Nat) (hi : Part.draws ∈ ps) :
    s.OnlyChanges { t with draws := m } ps := by
  refine h.trans ?_
  constructor <;> intros <;> first | rfl | contradiction

/-- A load from where the read answers: the byte arrives, the PC goes on, and nothing else changes but what the read
did. -/
theorem loadAt_of_memRead (hm : s.memRead a = .next (v, u)) (hp : u.pc = s.pc) (ho : s.OnlyChanges u ps) (d : Reg)
    (n : Nat) : loadAt a d n s = .next ((u.setR d v).advance n) ∧ ((u.setR d v).advance n).r d = v ∧
      ((u.setR d v).advance n).pc = s.pcPlus n ∧ s.OnlyChanges ((u.setR d v).advance n) (.reg d :: ps) := by
  refine ⟨by rw [loadAt, hm]; rfl, State.setR_r_self u d v, State.advance_pc_eq hp ho.cfg n, ?_⟩
  exact ((ho.mono fun q hq => List.mem_cons_of_mem _ hq).setR (List.mem_cons_self ..)).advance

/-- A load from where the read faults. -/
theorem loadAt_of_fault {f : Fault} (hm : s.memRead a = .fault f) (d : Reg) (n : Nat) :
    loadAt a d n s = .fault f := by
  rw [loadAt, hm]; rfl

/-- Settles O49: every one of the seven is loadAt at its address, and then by the class, as the read answers. -/
theorem loadResult : Obligations.LoadResult := by
  intro s d q k k8 p hp
  have hexec : exec p.1 s = loadAt p.2.1 d p.2.2 s := by
    simp only [List.mem_cons, List.not_mem_nil, or_false] at hp
    rcases hp with rfl | rfl | rfl | rfl | rfl | rfl | rfl <;> rfl
  rw [hexec]
  obtain ⟨-, a, n⟩ := p
  refine ⟨fun v hl hv => ?_, fun hl hv => ?_, fun i hl => ?_, fun m hl => ?_, fun hl => ?_, fun o m hl hb => ?_,
    fun o m hl hb => ?_, fun hl => ?_⟩
  · exact ⟨_, loadAt_of_memRead (State.memRead_ram hl hv) rfl (.refl s []) d n⟩
  · obtain ⟨he, hr, hpc, ho⟩ := loadAt_of_memRead (State.memRead_ram_unwritten hl hv) rfl
      ((State.OnlyChanges.refl s [.draws]).draw _ (by simp)) d n
    exact ⟨_, he, hr, rfl, hpc, ho⟩
  · exact ⟨_, loadAt_of_memRead (State.memRead_reg hl) rfl (.refl s []) d n⟩
  · obtain ⟨he, hr, hpc, ho⟩ := loadAt_of_memRead (State.memRead_io hl) (State.ioRead_pc s m).1
      ((State.OnlyChanges.refl s [.hist]).ioRead (by simp)) d n
    exact ⟨_, he, hr, State.ioRead_hist s m, hpc, ho⟩
  · obtain ⟨he, hr, hpc, ho⟩ := loadAt_of_memRead (State.memRead_other hl) rfl
      ((State.OnlyChanges.refl s [.hist]).event (by simp)) d n
    exact ⟨_, he, hr, rfl, hpc, ho⟩
  · exact ⟨_, loadAt_of_memRead (State.memRead_window_within hl hb) rfl (.refl s []) d n⟩
  · exact loadAt_of_fault (State.memRead_window_beyond hl hb) d n
  · exact loadAt_of_fault (State.memRead_unmapped hl) d n

/-! ### Pointers (42_data_transfer R260) -/

/-- Setting a pointer keeps the PC, the RAM and the history. -/
theorem State.ptrSet_keeps (s : State) (p : Ptr) (n : Nat) :
    (s.ptrSet p n).pc = s.pc ∧ (s.ptrSet p n).data = s.data ∧ (s.ptrSet p n).hist = s.hist := by
  unfold State.ptrSet
  split
  · exact ⟨rfl, rfl, rfl⟩
  · exact ⟨rfl, rfl, rfl⟩
  · cases p <;> exact ⟨rfl, rfl, rfl⟩

/-- A register that is no half of the pointer is none of the parts that setting the pointer writes. -/
theorem Ptr.reg_not_mem_parts (h : p.holds i = false) (w : PtrWidth) : Part.reg i ∉ p.parts w := by
  simp only [Ptr.holds, Bool.or_eq_false_iff, beq_eq_false_iff_ne] at h
  obtain ⟨hlo, hhi⟩ := h
  cases w <;> cases p <;> simp [Ptr.parts, hlo, hhi]

theorem State.ptrSet_r (h : p.holds i = false) (s : State) (n : Nat) : (s.ptrSet p n).r i = s.r i :=
  ((State.OnlyChanges.refl s _).ptrSet fun _ hq => hq).reg i (Ptr.reg_not_mem_parts h _)

/-- The three bytes of a 24-bit pointer make the number again. -/
theorem rampAppend_toNat (n : Nat) :
    ((BitVec.ofNat 24 n).extractLsb' 16 8 ++ BitVec.ofNat 16 n).toNat = n % 2 ^ 24 := by
  rw [BitVec.toNat_append, ← Nat.shiftLeft_add_eq_or_of_lt (BitVec.ofNat 16 n).isLt, Nat.shiftLeft_eq,
    BitVec.extractLsb'_toNat, Nat.shiftRight_eq_div_pow, BitVec.toNat_ofNat, BitVec.toNat_ofNat]
  omega

/-- What is written to a RAMP register the device has is there. -/
theorem State.ramp_setRamp (h : Config.hasRamp s.cfg p = true) (v : Byte) : (s.setRamp p v).ramp p = v := by
  cases p <;> simp_all [State.setRamp, State.ramp, State.getRampx, State.getRampy, State.getRampz, Config.hasRamp]

theorem State.setRamp_pair (s : State) (p : Ptr) (v : Byte) (i : Reg) : (s.setRamp p v).pair i = s.pair i := by
  cases p <;> rfl

/-- The pointer reads as what it was set to, mod its width. -/
theorem State.ptrGet_ptrSet (h : s.cfg.ptrWidth = .w24 → Config.hasRamp s.cfg p = true) (n : Nat) :
    (s.ptrSet p n).ptrGet p = n % Config.ptrMod s.cfg := by
  unfold State.ptrGet Config.ptrMod
  rw [State.ptrSet_cfg]
  unfold State.ptrSet
  cases hw : s.cfg.ptrWidth with
  | w8 => simp [PtrWidth.bits]
  | w16 => simp [PtrWidth.bits]
  | w24 =>
    have hramp : Config.hasRamp (s.setPair p.lo (BitVec.ofNat 16 n)).cfg p = true := h hw
    simp only [State.ramp_setRamp hramp, State.setRamp_pair, State.pair_setPair, PtrWidth.bits]
    exact rampAppend_toNat n

theorem Config.ptrMod_pos (c : Config) : 0 < Config.ptrMod c := Nat.two_pow_pos _

theorem State.ptrUp_lt (s : State) (p : Ptr) : s.ptrUp p < Config.ptrMod s.cfg := Nat.mod_lt _ (Config.ptrMod_pos _)

theorem State.ptrDown_lt (s : State) (p : Ptr) : s.ptrDown p < Config.ptrMod s.cfg :=
  Nat.mod_lt _ (Config.ptrMod_pos _)

/-- The pointer after a post-increment, as a number mod its width. -/
theorem State.ptrUp_int (s : State) (p : Ptr) :
    (s.ptrUp p : Int) = ((s.ptrGet p : Int) + 1) % (2 ^ s.cfg.ptrWidth.bits : Nat) := by
  rw [State.ptrUp, Config.ptrMod]; push_cast; rfl

/-- The pointer after a pre-decrement, as a number mod its width: zero less one is the highest address. -/
theorem State.ptrDown_int (s : State) (p : Ptr) :
    (s.ptrDown p : Int) = ((s.ptrGet p : Int) + -1) % (2 ^ s.cfg.ptrWidth.bits : Nat) := by
  have hpos := Config.ptrMod_pos s.cfg
  rw [State.ptrDown, show (2 ^ s.cfg.ptrWidth.bits : Nat) = Config.ptrMod s.cfg from rfl, Int.natCast_mod,
    Int.natCast_add, Int.natCast_sub hpos, show (s.ptrGet p : Int) + (Config.ptrMod s.cfg - (1 : Nat)) =
      s.ptrGet p + -1 + Config.ptrMod s.cfg by omega, Int.add_emod_right]

/-! ### A write beside the pointer and the setting of the pointer commute -/

theorem State.setR_comm {i j : Reg} (h : i ≠ j) (s : State) (v w : Byte) :
    (s.setR i v).setR j w = (s.setR j w).setR i v := by
  have hne : i.val ≠ j.val := fun e => h (Fin.ext e)
  simp only [State.setR, Vector.set_comm _ _ hne]

/-- What commutes with the writing of the pointer's registers and of its RAMP register commutes with setting it. -/
theorem State.ptrSet_comm {W : State → State} (hcfg : (W s).cfg = s.cfg)
    (hreg : ∀ (u : State) (j : Reg) (v : Byte), p.holds j = true → W (u.setR j v) = (W u).setR j v)
    (hramp : ∀ (u : State) (v : Byte), W (u.setRamp p v) = (W u).setRamp p v) (n : Nat) :
    W (s.ptrSet p n) = (W s).ptrSet p n := by
  have hlo : p.holds p.lo = true := by simp [Ptr.holds]
  have hhi : p.holds (p.lo + 1) = true := by simp [Ptr.holds]
  unfold State.ptrSet
  rw [hcfg]
  split
  · exact hreg s _ _ hlo
  · rw [State.setPair, hreg _ _ _ hhi, hreg _ _ _ hlo]; rfl
  · rw [hramp, State.setPair, hreg _ _ _ hhi, hreg _ _ _ hlo]; rfl

theorem State.ramWrite_ptrSet (s : State) (p : Ptr) (n a : Nat) (v : Byte) :
    (s.ptrSet p n).ramWrite a v = (s.ramWrite a v).ptrSet p n :=
  State.ptrSet_comm (W := fun u => u.ramWrite a v) rfl (fun _ _ _ _ => rfl) (fun _ _ => by cases p <;> rfl) n

theorem State.event_ptrSet (s : State) (p : Ptr) (n : Nat) (e : IoEvent) :
    (s.ptrSet p n).event e = (s.event e).ptrSet p n :=
  State.ptrSet_comm (W := fun u => u.event e) rfl (fun _ _ _ _ => rfl) (fun _ _ => by cases p <;> rfl) n

theorem State.setR_ptrSet (h : p.holds i = false) (s : State) (n : Nat) (v : Byte) :
    (s.ptrSet p n).setR i v = (s.setR i v).ptrSet p n :=
  State.ptrSet_comm (W := fun u => u.setR i v) rfl
    (fun u j w hj => State.setR_comm (fun e => by simp [← e, hj] at h) u w v) (fun _ _ => by cases p <;> rfl) n

/-! ### Stores that step the pointer -/

/-- `o` is the outcome of a store of `v` to `a` that leaves the pointer at `n`: the pointer is set after the write
(post-increment) or before it (pre-decrement). -/
def SteppedStore (o : Res State) (s : State) (p : Ptr) (a : Nat) (v : Byte) (n : Nat) : Prop :=
  o = andThen (s.memWrite a v) (fun u => .next ((u.ptrSet p n).advance 1)) ∨
  o = andThen ((s.ptrSet p n).memWrite a v) fun u => .next (u.advance 1)

theorem storeInc_eq (h : p.holds r = false) (mn : String) (s : State) : storeInc mn p r s =
    andThen (s.memWrite (s.ptrGet p) (s.r r)) fun u => .next ((u.ptrSet p (s.ptrUp p)).advance 1) := by
  simp [storeInc, h]

theorem storeDec_eq (h : p.holds r = false) (mn : String) (s : State) : storeDec mn p r s =
    andThen ((s.ptrSet p (s.ptrDown p)).memWrite (s.ptrDown p) (s.r r)) fun u => .next (u.advance 1) := by
  simp [storeDec, h, storeAt, State.ptrSet_r h]

section
variable {o : Res State} (hs : SteppedStore o s p a v n)
include hs

/-- Where the write is the same on every state of this configuration and commutes with the setting of the pointer, the
order does not show. -/
theorem SteppedStore.next {W : State → State} (hW : ∀ u : State, u.cfg = s.cfg → u.memWrite a v = .next (W u))
    (hcomm : W (s.ptrSet p n) = (W s).ptrSet p n) : o = .next (((W s).ptrSet p n).advance 1) := by
  rcases hs with rfl | rfl
  · rw [hW s rfl]; rfl
  · rw [hW _ (State.ptrSet_cfg s p n), hcomm]; rfl

theorem SteppedStore.fault {f : Fault} (hf : ∀ u : State, u.cfg = s.cfg → u.memWrite a v = .fault f) :
    o = .fault f := by
  rcases hs with rfl | rfl
  · rw [hf s rfl]; rfl
  · rw [hf _ (State.ptrSet_cfg s p n)]; rfl

theorem SteppedStore.refused {x : Refusal} (hx : ∀ u : State, u.cfg = s.cfg → u.memWrite a v = .refused x) :
    o = .refused x := by
  rcases hs with rfl | rfl
  · rw [hx s rfl]; rfl
  · rw [hx _ (State.ptrSet_cfg s p n)]; rfl

end

/-! ### What a write and then the setting of the pointer leave -/

theorem State.ptrSet_advance_ptrGet (hc : u.cfg = s.cfg)
    (hw : s.cfg.ptrWidth = .w24 → Config.hasRamp s.cfg p = true) (hn : n < Config.ptrMod s.cfg) :
    ((u.ptrSet p n).advance 1).ptrGet p = n := by
  show (u.ptrSet p n).ptrGet p = n
  rw [State.ptrGet_ptrSet (hc ▸ hw), hc, Nat.mod_eq_of_lt hn]

theorem State.ptrSet_advance_pc (hp : u.pc = s.pc) (hc : u.cfg = s.cfg) (p : Ptr) (n : Nat) :
    ((u.ptrSet p n).advance 1).pc = s.pcPlus 1 := by
  obtain ⟨hpc, -, -⟩ := u.ptrSet_keeps p n
  exact State.advance_pc_eq (hpc.trans hp) ((u.ptrSet_cfg p n).trans hc) 1

theorem State.ptrSet_advance_frame (ho : s.OnlyChanges u ps) (p : Ptr) (n : Nat) :
    s.OnlyChanges ((u.ptrSet p n).advance 1) (ps ++ p.parts s.cfg.ptrWidth) := by
  refine ((ho.mono fun q hq => List.mem_append_left _ hq).ptrSet fun q hq => ?_).advance
  exact List.mem_append_right _ (ho.cfg ▸ hq)

/-- A post-increment that answers, whatever the write was: the stepped pointer stays, the write comes before it. -/
theorem storeInc_of_memWrite (hr : p.holds r = false) (hw : s.cfg.ptrWidth = .w24 → Config.hasRamp s.cfg p = true)
    (hm : s.memWrite (s.ptrGet p) (s.r r) = .next u) (hp : u.pc = s.pc) (hc : u.cfg = s.cfg) (mn : String) :
    ∃ t, storeInc mn p r s = .next t ∧ t.ptrGet p = s.ptrUp p ∧ t.pc = s.pcPlus 1 ∧
      (u.ptrSet p (s.ptrUp p)).OnlyChanges t [] := by
  rw [storeInc_eq hr, hm]
  exact ⟨_, rfl, State.ptrSet_advance_ptrGet hc hw (s.ptrUp_lt p), State.ptrSet_advance_pc hp hc p _,
    (State.OnlyChanges.refl _ _).advance⟩

/-- A pre-decrement that answers, whatever the write was: the write comes after the pointer, and stays. -/
theorem storeDec_of_memWrite (hr : p.holds r = false)
    (hm : (s.ptrSet p (s.ptrDown p)).memWrite (s.ptrDown p) (s.r r) = .next u)
    (hp : u.pc = (s.ptrSet p (s.ptrDown p)).pc) (hc : u.cfg = (s.ptrSet p (s.ptrDown p)).cfg) (mn : String) :
    storeDec mn p r s = .next (u.advance 1) ∧ (u.advance 1).pc = s.pcPlus 1 ∧ u.OnlyChanges (u.advance 1) [] := by
  obtain ⟨hpc, -, -⟩ := s.ptrSet_keeps p (s.ptrDown p)
  refine ⟨by rw [storeDec_eq hr, hm]; rfl, ?_, (State.OnlyChanges.refl _ _).advance⟩
  exact State.advance_pc_eq (hp.trans hpc) (hc.trans (s.ptrSet_cfg p _)) 1

/-- A write that the oracle records, in extended I/O or at an I/O address without a CPU register. -/
theorem State.memWrite_oracle {l : IoLoc} (v : Byte) (h : dataLoc s.cfg a = .other ∧ l = .other a ∨
    ∃ m, dataLoc s.cfg a = .io m ∧ m ∉ Config.cpuIo s.cfg ∧ l = .io m) :
    s.memWrite a v = .next (s.event (.write l v)) := by
  rcases h with ⟨hl, rfl⟩ | ⟨m, hl, hm, rfl⟩
  · exact State.memWrite_other v hl
  · rw [State.memWrite_io v hl, State.ioWrite_oracle v hm]

/-- The six stores that step the pointer, and where they leave it. -/
theorem exec_steppedStore (s : State) (r : Reg) : ∀ x ∈ [
      (Instr.stXInc r, Ptr.x, s.ptrGet .x, (1 : Int)), (.stYInc r, .y, s.ptrGet .y, 1), (.stZInc r, .z, s.ptrGet .z, 1),
      (.stXDec r, .x, s.ptrDown .x, -1), (.stYDec r, .y, s.ptrDown .y, -1), (.stZDec r, .z, s.ptrDown .z, -1)],
    x.2.1.holds r = false → ∃ n, n < Config.ptrMod s.cfg ∧
      (n : Int) = ((s.ptrGet x.2.1 : Int) + x.2.2.2) % (2 ^ s.cfg.ptrWidth.bits : Nat) ∧
      SteppedStore (exec x.1 s) s x.2.1 x.2.2.1 (s.r r) n := by
  intro x hx
  simp only [List.mem_cons, List.not_mem_nil, or_false] at hx
  rcases hx with rfl | rfl | rfl | rfl | rfl | rfl
  iterate 3 exact fun h => ⟨_, s.ptrUp_lt _, s.ptrUp_int _, .inl (storeInc_eq h "ST" s)⟩
  all_goals exact fun h => ⟨_, s.ptrDown_lt _, s.ptrDown_int _, .inr (storeDec_eq h "ST" s)⟩

/-- In RAM, in the register file beside the pointer, and where the oracle records, the order of write and pointer does
not show; the window refuses, and an unmapped address faults. -/
theorem SteppedStore.byClass {o : Res State} {δ : Int} (hs : SteppedStore o s p a v n)
    (hw : s.cfg.ptrWidth = .w24 → Config.hasRamp s.cfg p = true) (hn : n < Config.ptrMod s.cfg)
    (hint : (n : Int) = ((s.ptrGet p : Int) + δ) % (2 ^ s.cfg.ptrWidth.bits : Nat)) :
    (dataLoc s.cfg a = .ram → ∃ t, o = .next t ∧ t.ramByte a = some v ∧
      (t.ptrGet p : Int) = ((s.ptrGet p : Int) + δ) % (2 ^ s.cfg.ptrWidth.bits : Nat) ∧
      t.pc = s.pcPlus 1 ∧ s.OnlyChanges t (.ram a :: p.parts s.cfg.ptrWidth)) ∧
    (∀ i, dataLoc s.cfg a = .reg i → p.holds i = false → ∃ t, o = .next t ∧ t.r i = v ∧
      (t.ptrGet p : Int) = ((s.ptrGet p : Int) + δ) % (2 ^ s.cfg.ptrWidth.bits : Nat) ∧
      t.pc = s.pcPlus 1 ∧ s.OnlyChanges t (.reg i :: p.parts s.cfg.ptrWidth)) ∧
    (∀ l, (dataLoc s.cfg a = .other ∧ l = .other a ∨
        ∃ m, dataLoc s.cfg a = .io m ∧ m ∉ Config.cpuIo s.cfg ∧ l = .io m) →
      ∃ t, o = .next t ∧ t.hist = s.hist ++ [.write l v] ∧
      (t.ptrGet p : Int) = ((s.ptrGet p : Int) + δ) % (2 ^ s.cfg.ptrWidth.bits : Nat) ∧
      t.pc = s.pcPlus 1 ∧ s.OnlyChanges t (.hist :: p.parts s.cfg.ptrWidth)) ∧
    (∀ b m, dataLoc s.cfg a = .progWindow b m → o = .refused (.deviceDefined "store to mapped Flash")) ∧
    (dataLoc s.cfg a = .unmapped → o = .fault (.unmappedData a)) := by
  have pointer {u : State} (hc : u.cfg = s.cfg) : (((u.ptrSet p n).advance 1).ptrGet p : Int) =
      ((s.ptrGet p : Int) + δ) % (2 ^ s.cfg.ptrWidth.bits : Nat) := by
    rw [State.ptrSet_advance_ptrGet hc hw hn, hint]
  refine ⟨fun hl => ?_, fun i hl hi => ?_, fun l hl => ?_, fun b m hl => ?_, fun hl => ?_⟩
  · have ho : s.OnlyChanges (s.ramWrite a v) [.ram a] := (State.OnlyChanges.refl _ _).ramWrite (by simp)
    obtain ⟨-, hdata, -⟩ := (s.ramWrite a v).ptrSet_keeps p n
    exact ⟨_, hs.next (fun u hu => State.memWrite_ram v (hu ▸ hl)) (s.ramWrite_ptrSet p n a v),
      (congrArg (Memory.lookup a) hdata).trans (s.ramByte_ramWrite a v), pointer rfl,
      State.ptrSet_advance_pc rfl rfl p n, State.ptrSet_advance_frame ho p n⟩
  · have ho : s.OnlyChanges (s.setR i v) [.reg i] := (State.OnlyChanges.refl _ _).setR (by simp)
    exact ⟨_, hs.next (fun u hu => State.memWrite_reg v (hu ▸ hl)) (State.setR_ptrSet hi s n v),
      (State.ptrSet_r hi _ n).trans (s.setR_r_self i v), pointer rfl,
      State.ptrSet_advance_pc rfl rfl p n, State.ptrSet_advance_frame ho p n⟩
  · have ho : s.OnlyChanges (s.event (.write l v)) [.hist] := (State.OnlyChanges.refl _ _).event (by simp)
    obtain ⟨-, -, hhist⟩ := (s.event (.write l v)).ptrSet_keeps p n
    exact ⟨_, hs.next (fun u hu => State.memWrite_oracle v (hu ▸ hl)) (s.event_ptrSet p n _), hhist, pointer rfl,
      State.ptrSet_advance_pc rfl rfl p n, State.ptrSet_advance_frame ho p n⟩
  · exact hs.refused fun u hu => State.memWrite_window v (hu ▸ hl)
  · exact hs.fault fun u hu => State.memWrite_unmapped v (hu ▸ hl)

/-- Settles O52. The first part by the class of the address, in either order of write and pointer
(SteppedStore.byClass); the other two keep the order, so that a write to the pointer's own half or RAMP register comes
first or last. -/
theorem storeStepping : Obligations.StoreStepping := by
  refine ⟨fun s r x hx hr hw => ?_, fun s r x hx hr hw => ?_, fun s r x hx hr => ?_⟩
  · obtain ⟨n, hn, hint, hs⟩ := exec_steppedStore s r x hx hr
    exact hs.byClass hw hn hint
  · have hexec : exec x.1 s = storeInc "ST" x.2 r s := by
      simp only [List.mem_cons, List.not_mem_nil, or_false] at hx
      rcases hx with rfl | rfl | rfl <;> rfl
    rw [hexec]
    refine ⟨fun n hl => ?_, fun i hl => ?_⟩
    · obtain ⟨hpc, hcfg⟩ := s.ioWrite_pc n (s.r r)
      exact storeInc_of_memWrite hr hw (State.memWrite_io _ hl) hpc hcfg "ST"
    · exact storeInc_of_memWrite hr hw (State.memWrite_reg _ hl) rfl rfl "ST"
  · have hexec : exec x.1 s = storeDec "ST" x.2 r s := by
      simp only [List.mem_cons, List.not_mem_nil, or_false] at hx
      rcases hx with rfl | rfl | rfl <;> rfl
    have hcfg := s.ptrSet_cfg x.2 (s.ptrDown x.2)
    rw [hexec]
    refine ⟨fun n hl => ?_, fun i hl => ?_⟩
    · obtain ⟨hpc, hcfg'⟩ := (s.ptrSet x.2 (s.ptrDown x.2)).ioWrite_pc n (s.r r)
      exact ⟨_, storeDec_of_memWrite hr (State.memWrite_io _ (hcfg ▸ hl)) hpc hcfg' "ST"⟩
    · obtain ⟨he, hpc, ho⟩ := storeDec_of_memWrite hr (State.memWrite_reg _ (hcfg ▸ hl)) rfl rfl "ST"
      exact ⟨_, he, State.setR_r_self _ i _, hpc, ho⟩

end Sys2Proof.Machine
end

section
/-! Memory (20_memory): one byte of RAM, the pointers as numbers, the data map of the AVR128DA64 (R66 to R75). -/

namespace Sys2Proof.Machine

/-! ### RAM (20_memory R70, R71, R87) -/

/-- Settles O19: a write of RAM lists the byte, whatever the list held (Memory.lookup_insert), in its place
(Memory.wf_insert). -/
theorem ramReadAfterWrite : Obligations.RamReadAfterWrite := by
  intro s t a v hram ht
  obtain rfl : s.ramWrite a v = t := Host.Outcome.next.inj ((State.memWrite_ram v hram).symm.trans ht)
  exact ⟨State.memRead_ram hram (s.ramByte_ramWrite a v), (State.OnlyChanges.refl _ _).ramWrite (by simp),
    Memory.wf_insert a v s.data⟩

/-! ### Pointers (42_data_transfer R260, R265) -/

/-- A byte above a word, as RAMPP stands above a pair. -/
theorem byteAppendWord_toNat (x : Byte) (w : BitVec 16) : (x ++ w).toNat = x.toNat * 65536 + w.toNat := by
  rw [BitVec.toNat_append, ← Nat.shiftLeft_add_eq_or_of_lt w.isLt, Nat.shiftLeft_eq]

/-- Settles O23: by the width, the pointer's bytes; the steps are State.ptrUp_int and State.ptrDown_int. -/
theorem pointerArithmetic : Obligations.PointerArithmetic := by
  intro s p q k
  refine ⟨fun hw => ?_, fun hw => ?_, fun hw => ?_, rfl, (s.ptrUp_int p).symm, (s.ptrDown_int p).symm⟩
  · simp only [State.ptrGet, State.directAddr, hw, and_self]
  · simp only [State.ptrGet, State.directAddr, hw, State.pair_toNat, and_self]
  · simp only [State.ptrGet, State.directAddr, hw, byteAppendWord_toNat, State.pair_toNat, Nat.add_assoc, and_self]

/-! ### The data map of the AVR128DA64 (20_memory R73, R74) -/

/-- IO_BASE is 0 and the register file is not in data space; above them the four regions of R74, the first two both the
oracle's. -/
theorem dataLoc_avr128da64 (a : Nat) : dataLoc avr128da64 a =
    if a < 0x40 then .io a else if a < 0x1600 then .other else if a < 0x4000 then .unmapped
    else if a < 0x8000 then .ram else if a < 0x10000 then .progWindow (a - 0x8000) 0x8000 else .unmapped := by
  have hmap : dataLoc avr128da64 a = if a < 0x40 then .io a else regionLoc a avr128da64Regions := by
    simp [dataLoc, avr128da64]
  simp only [hmap, regionLoc, avr128da64Regions, Nat.zero_add]
  grind

/-- Settles O21: the ranges of dataLoc_avr128da64. -/
theorem avr128DataMap : Obligations.Avr128DataMap := by
  intro a
  rw [dataLoc_avr128da64]
  refine ⟨fun h => if_pos (by omega), fun h h' => ?_, fun h h' => ?_, fun h h' => ?_, fun h h' => ?_⟩
  · rw [if_neg (by omega), if_pos (by omega)]
  · rw [if_neg (by omega), if_neg (by omega), if_pos (by omega)]
  · rw [if_neg (by omega), if_neg (by omega), if_neg (by omega), if_pos (by omega)]
  · rw [if_neg (by omega), if_neg (by omega), if_neg (by omega), if_neg (by omega), if_pos (by omega)]

end Sys2Proof.Machine
end

section
/-! The step runs what stands at the PC (20_memory R61, 30_encoding R125): the second word is an operand alone. -/

namespace Sys2Proof

/-! ### A word by its four-bit digits -/

theorem word_eq_digits (w : Word) :
    w = w.extractLsb' 12 4 ++ w.extractLsb' 8 4 ++ w.extractLsb' 4 4 ++ w.extractLsb' 0 4 := by
  apply BitVec.eq_of_toNat_eq
  simp only [BitVec.toNat_append, BitVec.extractLsb'_toNat, Nat.shiftRight_eq_div_pow]
  have := w.isLt
  iterate 3 rw [← Nat.shiftLeft_add_eq_or_of_lt (by omega), Nat.shiftLeft_eq]
  omega

/-- The instructions of two words, by the digits of their first: LDS and STS, JMP and CALL (R101). -/
theorem instrLen_digits : ∀ a b c : BitVec 4,
    (a.toNat < 4 ∧ c.toNat = 0 ∨ (a.toNat = 4 ∨ a.toNat = 5) ∧ 12 ≤ c.toNat) →
    instrLen .avrxt (9#4 ++ a ++ b ++ c) = 2 := by decide

theorem instrLen_eq_two {w : Word} (h3 : (w.extractLsb' 12 4).toNat = 9)
    (h : (w.extractLsb' 8 4).toNat < 4 ∧ (w.extractLsb' 0 4).toNat = 0 ∨
      ((w.extractLsb' 8 4).toNat = 4 ∨ (w.extractLsb' 8 4).toNat = 5) ∧ 12 ≤ (w.extractLsb' 0 4).toNat) :
    instrLen .avrxt w = 2 := by
  have h9 : w.extractLsb' 12 4 = 9#4 := BitVec.eq_of_toNat_eq h3
  rw [word_eq_digits w, h9]
  exact instrLen_digits _ _ _ h

theorem instrLen_of_ne_avrrc {core : Core} (h : core ≠ .avrrc) (w : Word) : instrLen core w = instrLen .avrxt w := by
  simp [instrLen, h]

/-! ### What the second word decides -/

/-- Where the second word `w1` gives `i`, the word 0 gives `o`: the same, or, of two words, the same but for the operand
that the second word is, which availability does not read; AVRrc has none of these. -/
def SameButSecondWord (w : Word) (i : Instr) (o : Except Reject Instr) : Prop :=
  o = .ok i ∨ instrLen .avrxt w = 2 ∧ Core.avrrc.has i = false ∧
    ∃ j, o = .ok j ∧ ∀ c : Config, c.available j = c.available i

variable {w w1 : Word} {i : Instr}

theorem decodeLoad_of_ne (h : (w.extractLsb' 0 4).toNat ≠ 0) (w1 w2 : Word) : decodeLoad w w1 = decodeLoad w w2 := by
  unfold decodeLoad
  split
  · contradiction
  all_goals rfl

theorem decodeStore_of_ne (h : (w.extractLsb' 0 4).toNat ≠ 0) (w1 w2 : Word) : decodeStore w w1 = decodeStore w w2 := by
  unfold decodeStore
  split
  · contradiction
  all_goals rfl

theorem decodeMisc_of_lt (h : (w.extractLsb' 0 4).toNat < 12) (w1 w2 : Word) : decodeMisc w w1 = decodeMisc w w2 := by
  unfold decodeMisc
  split
  any_goals rfl
  all_goals grind

theorem decode9_of_ge (h : 6 ≤ (w.extractLsb' 8 4).toNat) (w1 w2 : Word) : decode9 w w1 = decode9 w w2 := by
  unfold decode9
  split
  any_goals rfl
  all_goals omega

theorem decodeWord_of_ne (h : (w.extractLsb' 12 4).toNat ≠ 9) (w1 w2 : Word) : decodeWord w w1 = decodeWord w w2 := by
  unfold decodeWord
  split
  any_goals rfl
  contradiction

theorem decodeMisc_jmp_or_call (h : 12 ≤ (w.extractLsb' 0 4).toNat) :
    (∀ x, decodeMisc w x = .ok (.jmp (fieldK22 w x))) ∨ (∀ x, decodeMisc w x = .ok (.call (fieldK22 w x))) := by
  unfold decodeMisc
  split
  any_goals omega
  · exact .inl fun _ => rfl
  · exact .inl fun _ => rfl
  · exact .inr fun _ => rfl

theorem decode9_eq_decodeLoad (h : (w.extractLsb' 8 4).toNat < 2) (x : Word) : decode9 w x = decodeLoad w x := by
  obtain e | e : (w.extractLsb' 8 4).toNat = 0 ∨ (w.extractLsb' 8 4).toNat = 1 := by omega
  all_goals simp only [decode9, e]

theorem decode9_eq_decodeStore (h2 : 2 ≤ (w.extractLsb' 8 4).toNat) (h : (w.extractLsb' 8 4).toNat < 4) (x : Word) :
    decode9 w x = decodeStore w x := by
  obtain e | e : (w.extractLsb' 8 4).toNat = 2 ∨ (w.extractLsb' 8 4).toNat = 3 := by omega
  all_goals simp only [decode9, e]

theorem decode9_eq_decodeMisc (h4 : 4 ≤ (w.extractLsb' 8 4).toNat) (h : (w.extractLsb' 8 4).toNat < 6) (x : Word) :
    decode9 w x = decodeMisc w x := by
  obtain e | e : (w.extractLsb' 8 4).toNat = 4 ∨ (w.extractLsb' 8 4).toNat = 5 := by omega
  all_goals simp only [decode9, e]

/-- Of the words `1001 …` the second word is read by LDS, STS, JMP and CALL. -/
theorem decode9_zero (h3 : (w.extractLsb' 12 4).toNat = 9) (h : decode9 w w1 = .ok i) :
    SameButSecondWord w i (decode9 w 0#16) := by
  have same (e : decode9 w w1 = decode9 w 0#16) : SameButSecondWord w i (decode9 w 0#16) := .inl (e ▸ h)
  by_cases hload : (w.extractLsb' 8 4).toNat < 2
  · have e := decode9_eq_decodeLoad hload
    by_cases h0 : (w.extractLsb' 0 4).toNat = 0
    · have e' (x : Word) : decodeLoad w x = .ok (.lds (fieldD5 w) x) := by simp only [decodeLoad, h0]
      rw [e, e'] at h ⊢
      cases h
      exact .inr ⟨instrLen_eq_two h3 (.inl ⟨by omega, h0⟩), rfl, _, rfl, fun _ => rfl⟩
    · exact same (by rw [e, e, decodeLoad_of_ne h0])
  by_cases hstore : (w.extractLsb' 8 4).toNat < 4
  · have e := decode9_eq_decodeStore (by omega) hstore
    by_cases h0 : (w.extractLsb' 0 4).toNat = 0
    · have e' (x : Word) : decodeStore w x = .ok (.sts x (fieldD5 w)) := by simp only [decodeStore, h0]
      rw [e, e'] at h ⊢
      cases h
      exact .inr ⟨instrLen_eq_two h3 (.inl ⟨hstore, h0⟩), rfl, _, rfl, fun _ => rfl⟩
    · exact same (by rw [e, e, decodeStore_of_ne h0])
  by_cases hmisc : (w.extractLsb' 8 4).toNat < 6
  · have e := decode9_eq_decodeMisc (by omega) hmisc
    by_cases h0 : (w.extractLsb' 0 4).toNat < 12
    · exact same (by rw [e, e, decodeMisc_of_lt h0])
    · have hlen := instrLen_eq_two h3 (.inr ⟨by omega, Nat.le_of_not_lt h0⟩)
      rcases decodeMisc_jmp_or_call (Nat.le_of_not_lt h0) with e' | e' <;> rw [e, e'] at h ⊢ <;> cases h <;>
        exact .inr ⟨hlen, rfl, _, rfl, fun _ => rfl⟩
  · exact same (decode9_of_ge (by omega) _ _)

/-- No other word of the opcode map R109 has a second one. -/
theorem decodeWord_zero (h : decodeWord w w1 = .ok i) : SameButSecondWord w i (decodeWord w 0#16) := by
  by_cases h9 : (w.extractLsb' 12 4).toNat = 9
  · have e (x : Word) : decodeWord w x = decode9 w x := by simp only [decodeWord, h9]
    rw [e] at h ⊢
    exact decode9_zero h9 h
  · exact .inl (decodeWord_of_ne h9 w1 0#16 ▸ h)

/-- The first word alone tells whether there is an available instruction, and which one if it is one word long (R125,
steps 2 to 5). -/
theorem decode_zero {c : Config} (h : decode c.core w w1 = .ok i) (ha : c.available i = true) :
    ∃ j, decode c.core w 0#16 = .ok j ∧ c.available j = true ∧ (instrLen c.core w ≠ 2 → j = i) := by
  by_cases hrc : c.core = .avrrc
  · refine ⟨i, ?_, ha, fun _ => rfl⟩
    rw [hrc] at h ⊢
    simp only [decode, if_true] at h ⊢
    split_ifs at h ⊢
    · exact h
    · split at h
      · cases h
      · rename_i j hj
        have hji : j = i := by split at h <;> cases h; rfl
        subst hji
        have hhas : Core.avrrc.has j = true := by rw [← hrc]; exact (Bool.and_eq_true_iff.1 ha).1
        rcases decodeWord_zero hj with e | ⟨-, hnot, -⟩
        · rw [e]; exact h
        · rw [hhas] at hnot; cases hnot
  · have e (x : Word) : decode c.core w x = decodeWord w x := by rw [decode, if_neg hrc]
    rw [e] at h ⊢
    rcases decodeWord_zero h with hsame | ⟨hlen, -, j, hj, hav⟩
    · exact ⟨i, hsame, ha, fun _ => rfl⟩
    · exact ⟨j, hj, hav c ▸ ha, fun hne => absurd ((instrLen_of_ne_avrrc hrc w).trans hlen) hne⟩

end Sys2Proof

namespace Sys2Proof.Machine

variable {s u : State} {w w1 : Word} {i : Instr}

theorem decodeAt_eq_next {c : Config} (h : decode c.core w w1 = .ok i) (ha : c.available i = true) :
    decodeAt c w w1 = .next i := by
  simp [decodeAt, h, ha]

/-- The fetch of an available instruction (R125). -/
theorem State.fetch_eq_next (hw : s.progWord s.pc.toNat = .next w)
    (hw1 : instrLen s.cfg.core w = 2 → s.progWord s.nextWord = .next w1) (h : decode s.cfg.core w w1 = .ok i)
    (ha : s.cfg.available i = true) : s.fetch = .next i := by
  obtain ⟨j, hj, haj, hone⟩ := decode_zero h ha
  rw [State.fetch, hw, andThen_next, decodeAt_eq_next hj haj, andThen_next]
  split
  · rename_i hlen
    rw [hw1 hlen, andThen_next, decodeAt_eq_next h ha]
  · rename_i hlen
    rw [hone hlen]

/-- Settles O5: the fetch answers the decoded instruction (State.fetch_eq_next). -/
theorem stepRunsInstruction : Obligations.StepRunsInstruction := by
  intro s u w w1 i hb hw hw1 h ha
  have hfetch : u.fetch = .next i := State.fetch_eq_next hw hw1 h ha
  simp only [step, hb, hfetch, andThen_next]

end Sys2Proof.Machine
end

section
/-! Program space is written by SPM alone (20_memory R63). -/

namespace Sys2Proof.Machine

variable {s t : State} {a n : Nat} {v : Byte} {p : Ptr} {d r : Reg} {i : Instr}

/-! ### What keeps program space (20_memory R63) -/

theorem State.ioRead_prog (s : State) (a : Nat) : (s.ioRead a).2.prog = s.prog := by
  rcases State.ioRead_cases s a with e | e <;> rw [e]; rfl

theorem State.ioWrite_prog (s : State) (a : Nat) (v : Byte) : (s.ioWrite a v).prog = s.prog := by
  rcases State.ioWrite_cases s a v with e | ⟨x, e⟩ | e | e | e | e | e | e <;> rw [e] <;> rfl

theorem State.memRead_prog (h : s.memRead a = .next (v, t)) : t.prog = s.prog := by
  rcases State.memRead_cases h with rfl | ⟨e, rfl⟩ | ⟨_, rfl⟩ <;> rfl

theorem State.memWrite_prog (h : s.memWrite a v = .next t) : t.prog = s.prog := by
  rcases State.memWrite_cases h with ⟨_, rfl⟩ | ⟨i, _, rfl⟩ | ⟨p, _, rfl⟩ | ⟨_, rfl⟩
  · rfl
  · rfl
  · exact State.ioWrite_prog s p v
  · rfl

theorem State.push_prog (h : s.push v = .next t) : t.prog = s.prog := by
  obtain ⟨u, hu, rfl⟩ := State.push_cases h
  exact (State.memWrite_prog hu :)

theorem State.pop_prog (h : s.pop = .next (v, t)) : t.prog = s.prog :=
  (State.memRead_prog (s := s.setSp _) h :)

theorem State.pushBytes_prog {bs : List Byte} (h : s.pushBytes bs = .next t) : t.prog = s.prog := by
  induction bs generalizing s with
  | nil => cases h; rfl
  | cons b bs ih =>
    rw [State.pushBytes_cons, andThen_eq_next] at h
    obtain ⟨u, hu, h⟩ := h
    exact (ih h).trans (State.push_prog hu)

theorem State.popBytes_prog {bs : List Byte} (h : s.popBytes n = .next (bs, t)) : t.prog = s.prog := by
  induction n generalizing s bs with
  | zero => cases h; rfl
  | succ n ih =>
    simp only [State.popBytes_succ, andThen_eq_next] at h
    obtain ⟨⟨b, u⟩, hu, ⟨cs, w⟩, hw, h⟩ := h
    cases h
    exact (ih hw).trans (State.pop_prog hu)

theorem State.pushPc_prog {x : BitVec 22} (h : s.pushPc x = .next t) : t.prog = s.prog :=
  State.pushBytes_prog (s.pushPc_eq x ▸ h)

theorem State.popPc_prog (h : s.popPc = .next (a, t)) : t.prog = s.prog := by
  rw [State.popPc_eq, andThen_eq_next] at h
  obtain ⟨⟨bs, u⟩, hu, h⟩ := h
  cases h
  exact State.popBytes_prog hu

theorem State.enterIrq_prog {level : IrqLevel} (h : s.enterIrq n level = .next t) : t.prog = s.prog := by
  obtain ⟨u, hu, rfl⟩ := State.enterIrq_cases h
  exact (State.pushPc_prog hu :)

theorem State.skipIf_prog {c : Bool} (h : s.skipIf c = .next t) : t.prog = s.prog := by
  rcases State.skipIf_cases h with ⟨_, rfl⟩ | ⟨_, w, _, rfl⟩ <;> rfl

theorem State.ptrSet_prog (s : State) (p : Ptr) (n : Nat) : (s.ptrSet p n).prog = s.prog := by
  unfold State.ptrSet
  split
  · rfl
  · rfl
  · cases p <;> rfl

theorem State.ramRead_prog (s : State) (a : Nat) : (s.ramRead a).2.prog = s.prog := by
  unfold State.ramRead; split <;> rfl

theorem State.setBlock_prog (s : State) (b : BitVec 128) : (s.setBlock b).prog = s.prog := by
  unfold State.setBlock
  generalize lowRegs = l
  induction l generalizing s with
  | nil => rfl
  | cons i l ih => exact ih (s.setR i _)

theorem State.charge_prog (s : State) (c : Cost) : (s.charge c).prog = s.prog := by cases c <;> rfl

theorem callTo_prog {target : Nat} (h : callTo n target s = .next t) : t.prog = s.prog := by
  obtain ⟨u, hu, rfl⟩ := callTo_cases h
  exact (State.pushPc_prog hu :)

theorem branchIf_prog {c : Bool} {k : BitVec 7} (h : branchIf c k s = .next t) : t.prog = s.prog := by
  rw [branchIf_eq] at h
  cases h
  split <;> rfl

theorem loadAt_prog (h : loadAt a d n s = .next t) : t.prog = s.prog := by
  obtain ⟨v, u, hu, rfl⟩ := loadAt_cases h
  exact (State.memRead_prog hu :)

theorem loadInc_prog {mn : String} (h : loadInc mn p d s = .next t) : t.prog = s.prog := by
  obtain ⟨_, v, u, hu, rfl⟩ := loadInc_cases h
  exact (u.ptrSet_prog p _).trans (State.memRead_prog hu)

theorem loadDec_prog {mn : String} (h : loadDec mn p d s = .next t) : t.prog = s.prog := by
  obtain ⟨_, v, u, hu, rfl⟩ := loadDec_cases h
  exact (State.memRead_prog hu).trans (s.ptrSet_prog p _)

theorem storeAt_prog (h : storeAt a r n s = .next t) : t.prog = s.prog := by
  obtain ⟨u, hu, rfl⟩ := storeAt_cases h
  exact (State.memWrite_prog hu :)

theorem storeInc_prog {mn : String} (h : storeInc mn p r s = .next t) : t.prog = s.prog := by
  obtain ⟨_, u, hu, rfl⟩ := storeInc_cases h
  exact (u.ptrSet_prog p _).trans (State.memWrite_prog hu)

theorem storeDec_prog {mn : String} (h : storeDec mn p r s = .next t) : t.prog = s.prog := by
  obtain ⟨_, u, hu, rfl⟩ := storeDec_cases h
  exact (State.memWrite_prog hu).trans (s.ptrSet_prog p _)

theorem loadProg_prog (h : loadProg a d s = .next t) : t.prog = s.prog := by
  obtain ⟨v, _, rfl⟩ := loadProg_cases h
  rfl

theorem rmw_prog {mn : String} {f : Byte → Byte → Byte} (h : rmw mn f d s = .next t) : t.prog = s.prog := by
  obtain ⟨_, rfl⟩ := rmw_cases h
  exact s.ramRead_prog _

/-- Every instruction but SPM and SPM Z+ keeps program space, by the operation that gives it its meaning. -/
theorem exec_prog (h : exec i s = .next t) (hspm : i ≠ .spm) (hinc : i ≠ .spmZInc) : t.prog = s.prog := by
  cases i with
  | spm => exact absurd rfl hspm
  | spmZInc => exact absurd rfl hinc
  | add | adc | sub | subi | sbc | sbci | and | andi | or | ori | eor | com | neg | sbr | cbr | inc | dec | clr | lsl
  | lsr | rol | ror | asr | adiw | sbiw | mul | muls | mulsu | fmul | fmuls | fmulsu | cp | cpc | cpi | tst | bst | ser
  | mov | ldi | swap | bld | movw | rjmp | ijmp | eijmp | jmp | bset | bclr | sec | clc | sen | cln | sez | clz
  | sei | cli | ses | cls | sev | clv | set | clt | seh | clh | nop => cases h; rfl
  | des k => rw [exec_des, Host.Outcome.next.injEq] at h; rw [← h, State.advance_prog, State.setBlock_prog]
  | rcall | icall | eicall | call => exact callTo_prog h
  | ret | reti =>
    obtain ⟨⟨a, u⟩, hu, h⟩ := andThen_eq_next.1 h
    cases h
    exact (State.popPc_prog hu :)
  | cpse | sbrc | sbrs => exact State.skipIf_prog h
  | sbic | sbis => exact (State.skipIf_prog h).trans (s.ioRead_prog _)
  | brbs | brbc | breq | brne | brcs | brcc | brsh | brlo | brmi | brpl | brge | brlt | brhs | brhc | brts | brtc | brvs
  | brvc | brie | brid => exact branchIf_prog h
  | lds | ldsRc | ldX | ldY | lddY | ldZ | lddZ => exact loadAt_prog h
  | ldXInc | ldYInc | ldZInc => exact loadInc_prog h
  | ldXDec | ldYDec | ldZDec => exact loadDec_prog h
  | sts | stsRc | stX | stY | stdY | stZ | stdZ => exact storeAt_prog h
  | stXInc | stYInc | stZInc => exact storeInc_prog h
  | stXDec | stYDec | stZDec => exact storeDec_prog h
  | lpmR0 | lpmZ | elpmR0 | elpmZ => exact loadProg_prog h
  | lpmZInc =>
    simp only [exec, execLpmZInc] at h
    split at h
    · cases h
    · obtain ⟨v, _, h⟩ := andThen_eq_next.1 h
      cases h; rfl
  | elpmZInc =>
    simp only [exec, execElpmZInc] at h
    split at h
    · cases h
    · obtain ⟨v, _, h⟩ := andThen_eq_next.1 h
      cases h; rfl
  | inIo => cases h; exact s.ioRead_prog _
  | out => cases h; exact s.ioWrite_prog _ _
  | push =>
    obtain ⟨u, hu, h⟩ := andThen_eq_next.1 h
    cases h
    exact (State.push_prog hu :)
  | pop =>
    obtain ⟨⟨v, u⟩, hu, h⟩ := andThen_eq_next.1 h
    cases h
    exact (State.pop_prog hu :)
  | xch | las | lac | lat => simp only [exec, execXch, execLas, execLac, execLat] at h; exact rmw_prog h
  | sbi | cbi => cases h; exact (State.ioWrite_prog _ _ _).trans (s.ioRead_prog _)
  | brk =>
    simp only [exec, execBreak] at h
    split at h <;> cases h
    rfl
  | sleep =>
    simp only [exec, execSleep] at h
    split at h <;> cases h
    rfl
  | wdr =>
    simp only [exec, execWdr] at h
    split at h <;> cases h
    rfl

/-- Without an effect SPM does not answer (R297; D15). -/
theorem exec_spm_absent (h : s.cfg.spmEffect = .absent) :
    ∀ i ∈ [Instr.spm, .spmZInc], exec i s = .refused (.deviceDefined "SPM") := by
  have hw : spmWrite s = .refused (.deviceDefined "SPM") := by simp only [spmWrite, h]
  simp only [List.mem_cons, List.not_mem_nil, or_false]
  rintro i (rfl | rfl)
  · simp only [exec, execSpm, hw, andThen_refused]
  · simp only [exec, execSpmZInc, hw, andThen_refused]

/-- A step that changes program space has run SPM or SPM Z+; the boundary itself, whatever it does, keeps it. -/
theorem step_prog (h : step s = .next t) : t.prog = s.prog ∨
    ∃ u i v, s.boundary = .run u ∧ u.cfg = s.cfg ∧ u.fetch = .next i ∧ exec i u = .next v ∧
      (i = .spm ∨ i = .spmZInc) := by
  have hb := s.boundary_cases
  rcases step_cases h with ⟨u, eb, rfl⟩ | ⟨n, level, u, v, eb, hv, rfl⟩ | ⟨u, eb, rfl⟩ | ⟨u, i, v, eb, hi, hv, rfl⟩ <;>
    simp only [eb, reduceCtorEq, false_or, or_false, Boundary.reset.injEq, Boundary.interrupt.injEq,
      Boundary.idle.injEq, Boundary.run.injEq, and_false, exists_false] at hb
  · left; rw [State.charge_prog, hb]; rfl
  · obtain ⟨n, level, -, rfl, rfl, rfl⟩ := hb
    left; rw [State.charge_prog, State.enterIrq_prog hv]; rfl
  · left; rw [State.charge_prog, hb]; rfl
  · by_cases hspm : i = .spm ∨ i = .spmZInc
    · exact .inr ⟨u, i, v, eb, hb ▸ rfl, hi, hv, hspm⟩
    · obtain ⟨hne, hne'⟩ := not_or.1 hspm
      left; rw [State.charge_prog, exec_prog hv hne hne', hb]; rfl

/-- Settles O10: a step changes program space by an instruction it runs (step_prog), and every other instruction keeps
it (exec_prog); without an effect SPM does not answer. -/
theorem stepKeepsProgram : Obligations.StepKeepsProgram := by
  refine ⟨fun s t h => ?_, fun s t h habsent => ?_, fun i s t h hspm hinc => exec_prog h hspm hinc⟩
  · rcases step_prog h with hp | ⟨u, i, v, hb, -, hi, -, hspm⟩
    · exact .inl hp
    · exact .inr ⟨u, i, hb, hi, hspm⟩
  · rcases step_prog h with hp | ⟨u, i, v, -, hcfg, -, hv, hspm⟩
    · exact hp
    · rw [exec_spm_absent (hcfg ▸ habsent) i (by simpa using hspm)] at hv
      cases hv

end Sys2Proof.Machine
end

section
/-! The stack (20_memory R80 to R84): calls and returns, interrupt entries and RETI, PUSH and POP. -/

namespace Sys2Proof.Machine

variable {s t u : State} {a n : Nat} {v : Byte} {d r : Reg} {ps : List Part}

/-! ### What the stack operations keep -/

/-- What follows an operation matters only on what the operation answers. -/
theorem andThen_congr {α β : Type} {o : Res α} {k l : α → Res β} (h : ∀ x, o = .next x → k x = l x) :
    andThen o k = andThen o l := by
  cases o with
  | next x => exact h x rfl
  | fault f => rfl
  | refused f => rfl

theorem State.pushBytes_keeps {x : BitVec 22} (h : s.pushBytes (Config.returnBytes s.cfg x.toNat) = .next t) :
    t.cfg = s.cfg ∧ t.inService = s.inService := State.pushPc_keeps ((s.pushPc_eq x).trans h)

theorem State.setPc_eq (h : t.cfg = s.cfg) (n : Nat) :
    t.setPc n = { t with pc := BitVec.ofNat 22 (n % 2 ^ s.cfg.pcBits) } :=
  congrArg (fun c : Config => { t with pc := BitVec.ofNat 22 (n % 2 ^ c.pcBits) }) h

theorem State.OnlyChanges.pop (h : s.OnlyChanges t ps) (hp : t.pop = .next (v, u)) (hsp : Part.sp ∈ ps)
    (hhist : Part.hist ∈ ps) (hdraws : Part.draws ∈ ps) : s.OnlyChanges u ps := (h.setSp hsp).memRead hp hhist hdraws

theorem State.OnlyChanges.popBytes (h : s.OnlyChanges t ps) {bs : List Byte} (hp : t.popBytes n = .next (bs, u))
    (hsp : Part.sp ∈ ps) (hhist : Part.hist ∈ ps) (hdraws : Part.draws ∈ ps) : s.OnlyChanges u ps := by
  induction n generalizing t bs with
  | zero => cases hp; exact h
  | succ n ih =>
    simp only [State.popBytes_succ, andThen_eq_next] at hp
    obtain ⟨⟨b, w⟩, hw, ⟨cs, x⟩, hx, hp⟩ := hp
    cases hp
    exact ih (h.pop hw hsp hhist hdraws) hx

theorem State.popBytes_frame {bs : List Byte} (h : s.popBytes n = .next (bs, t)) :
    s.OnlyChanges t [.sp, .hist, .draws] :=
  (State.OnlyChanges.refl s _).popBytes h (by simp) (by simp) (by simp)

/-- The general registers as one value. -/
theorem State.OnlyChanges.regs_eq (h : s.OnlyChanges t ps) (hreg : ∀ i, Part.reg i ∉ ps) : t.regs = s.regs :=
  Vector.ext fun i hi => h.reg ⟨i, hi⟩ (hreg _)

/-! ### PopPC is the inverse of PushPC (20_memory R83) -/

/-- The bytes of a number below 2^22, put together again. -/
theorem bytes_ofNat (h : a < 2 ^ 22) : (BitVec.ofNat 8 (a / 65536)).toNat * 65536 +
    (BitVec.ofNat 8 (a / 256)).toNat * 256 + (BitVec.ofNat 8 a).toNat = a := by
  simp only [BitVec.toNat_ofNat]
  omega

/-- With the stack pointer and the pushed bytes as PushPC left them, PopPC gives the address back. -/
theorem State.popPc_of_pushPc (h : s.Inv) (hr : s.RoomFor s.cfg.retBytes) {x : BitVec 22}
    (hx : x.toNat < 2 ^ s.cfg.pcBits) (hpush : s.pushPc x = .next t) (hcfg : u.cfg = t.cfg) (hsp : u.sp = t.sp)
    (hb : ∀ j < s.cfg.retBytes, u.ramByte (s.below j) = t.ramByte (s.below j)) :
    ∃ w, u.popPc = .next (x.toNat, w) ∧ w.sp = s.sp ∧ w.cfg = s.cfg ∧ u.OnlyChanges w [.sp] := by
  obtain ⟨t', ht', -, hc, -, h0, h1, h2, hs, -⟩ := State.pushPc_ram_spec h hr x
  obtain rfl : t' = t := Host.Outcome.next.inj (ht'.symm.trans hpush)
  have hcfg' := hcfg.trans hc
  have hn : s.cfg.retBytes ≤ 3 ∧ 2 ≤ s.cfg.retBytes := by have := Config.retBytes_eq s.cfg; omega
  have habove (j : Nat) (hj : j ≤ s.cfg.retBytes) : u.above j = s.below (s.cfg.retBytes - j) :=
    State.above_below hcfg' (by omega) hj (hsp ▸ hs)
  have hholds {i : Nat} {v : Byte} (hi : i < s.cfg.retBytes) (hv : t'.ramByte (s.below i) = some v) :
      u.Holds (s.cfg.retBytes - i) v := by
    unfold State.Holds
    rw [habove _ (Nat.sub_le ..), Nat.sub_sub_self hi.le, hcfg', hb i hi]
    exact ⟨hr.2 i hi, hv⟩
  have hlo : u.Holds u.cfg.retBytes (BitVec.ofNat 8 x.toNat) := by rw [hcfg']; exact hholds (by omega) h0
  have hhi : u.Holds (u.cfg.retBytes - 1) (BitVec.ofNat 8 (x.toNat / 256)) := by
    rw [hcfg']; exact hholds (by omega) h1
  have hext : u.cfg.retBytes = 3 → u.Holds 1 (BitVec.ofNat 8 (x.toNat / 65536)) := by
    intro h3
    rw [hcfg'] at h3
    have hv := hholds (by omega) (h2 h3)
    rwa [h3] at hv
  obtain ⟨w, hw, hcw, hsw, -, ho⟩ := State.popPc_ram_spec (hcfg' ▸ h.legal.spBits) hext hhi hlo
  refine ⟨w, hw.trans ?_, ?_, hcw.trans hcfg', ho⟩
  · have hbytes := bytes_ofNat x.isLt
    congr 2
    rw [hcfg']
    split
    · exact hbytes
    · rename_i h3
      have hpc : s.cfg.pcBits ≤ 16 := by
        unfold Config.retBytes at h3; by_contra hc; exact h3 (if_neg hc)
      have hlt : x.toNat < 65536 := hx.trans_le (Nat.pow_le_pow_right (by decide) hpc)
      rw [Nat.div_eq_of_lt hlt] at hbytes
      simpa using hbytes
  · apply BitVec.eq_of_toNat_eq
    rw [hsw, hcfg', habove _ le_rfl, Nat.sub_self, State.below_zero h]

/-! ### Calls (41_change_of_flow R206 to R209) -/

theorem State.zTarget_eq (s : State) : s.zTarget = (s.r 31).toNat * 256 + (s.r 30).toNat := s.pair_toNat 30

theorem State.eindTarget_eq (s : State) :
    s.eindTarget = s.getEind.toNat % 64 * 65536 + ((s.r 31).toNat * 256 + (s.r 30).toNat) := by
  rw [State.eindTarget, BitVec.toNat_append, ← Nat.shiftLeft_add_eq_or_of_lt (s.pair 30).isLt, Nat.shiftLeft_eq,
    BitVec.extractLsb'_toNat, Nat.shiftRight_zero]
  exact congrArg _ (s.pair_toNat 30)

/-- RelTarget is within the PC's width already (R200). -/
theorem State.relTarget_mod (s : State) (k : Int) : s.relTarget k % 2 ^ s.cfg.pcBits = s.relTarget k := by
  have hpos : (0 : Int) < (2 ^ s.cfg.pcBits : Nat) := by exact_mod_cast Nat.two_pow_pos _
  have hlt : (s.relTarget k : Int) < (2 ^ s.cfg.pcBits : Nat) := by
    rw [State.relTarget, Int.toNat_of_nonneg (Int.emod_nonneg _ hpos.ne')]
    exact Int.emod_lt_of_pos _ hpos
  exact Nat.mod_eq_of_lt (by exact_mod_cast hlt)

/-- The four calls: each with its length in words and its target mod 2^PC_BITS. -/
def State.calls (s : State) (k12 : BitVec 12) (k22 : BitVec 22) : List (Instr × Nat × Int) :=
  let z := (s.r 31).toNat * 256 + (s.r 30).toNat
  [(.rcall k12, 1, ((s.pc.toNat : Int) + 1 + k12.toInt) % (2 ^ s.cfg.pcBits : Nat)),
    (.icall, 1, ((z % 2 ^ s.cfg.pcBits : Nat) : Int)),
    (.eicall, 1, (((s.getEind.toNat % 64 * 65536 + z) % 2 ^ s.cfg.pcBits : Nat) : Int)),
    (.call k22, 2, ((k22.toNat % 2 ^ s.cfg.pcBits : Nat) : Int))]

/-- Each call is PushPC of the address after it and then its target. -/
theorem exec_calls {k12 : BitVec 12} {k22 : BitVec 22} {p : Instr × Nat × Int} (hp : p ∈ s.calls k12 k22) :
    exec p.1 s = andThen (s.pushPc (s.pcPlus p.2.1)) fun t =>
      .next { t with pc := BitVec.ofNat 22 p.2.2.toNat } := by
  have hcall : ∃ target, exec p.1 s = callTo p.2.1 target s ∧ target % 2 ^ s.cfg.pcBits = p.2.2.toNat := by
    simp only [State.calls, List.mem_cons, List.not_mem_nil, or_false] at hp
    rcases hp with rfl | rfl | rfl | rfl
    · exact ⟨_, rfl, s.relTarget_mod _⟩
    · exact ⟨_, rfl, by rw [State.zTarget_eq]; rfl⟩
    · exact ⟨_, rfl, by rw [State.eindTarget_eq]; rfl⟩
    · exact ⟨_, rfl, rfl⟩
  obtain ⟨target, he, htarget⟩ := hcall
  rw [he]
  refine andThen_congr fun t ht => ?_
  obtain ⟨hcfg, -⟩ := State.pushPc_keeps ht
  rw [State.setPc_eq hcfg, htarget]

/-- Settles O43: every call is PushPC and a jump (exec_calls), PushPC in RAM by State.pushPc_ram_spec, anywhere by
State.pushPc_eq. -/
theorem callResult : Obligations.CallResult := by
  refine ⟨?_, ?_⟩
  · intro s k12 k22 h hr z p hp
    obtain ⟨t, ht, -, -, -, h0, h1, h2, hsp, ho⟩ := State.pushPc_ram_spec h hr (s.pcPlus p.2.1)
    have hpc : (s.pcPlus p.2.1).toNat = (s.pc.toNat + p.2.1) % 2 ^ s.cfg.pcBits := pc_fits h.legal.pcBits
    rw [hpc] at h0 h1 h2
    rw [exec_calls hp, ht]
    refine ⟨_, rfl, h0, h1, h2, hsp, rfl, ho.trans ?_⟩
    constructor <;> intros <;> rfl
  · intro s k12 k22 z p hp
    rw [exec_calls hp, State.pushPc_eq]

/-- Settles O45: PopPC gives the address after the call back (State.popPc_of_pushPc). -/
theorem callReturnRoundTrip : Obligations.CallReturnRoundTrip := by
  intro s t u k12 k22 h hr p hp he hcfg hsp hb
  obtain ⟨x, hx⟩ : ∃ x, (p.1, p.2, x) ∈ s.calls k12 k22 := by
    simp only [List.mem_cons, List.not_mem_nil, or_false] at hp
    rcases hp with rfl | rfl | rfl | rfl <;> simp [State.calls]
  rw [show exec p.1 s = _ from exec_calls hx, andThen_eq_next] at he
  obtain ⟨t', hpush, he⟩ := he
  cases he
  have hpc : (s.pcPlus p.2).toNat = (s.pc.toNat + p.2) % 2 ^ s.cfg.pcBits := pc_fits h.legal.pcBits
  have hlt : (s.pcPlus p.2).toNat < 2 ^ s.cfg.pcBits := hpc ▸ Nat.mod_lt _ (Nat.two_pow_pos _)
  obtain ⟨w, hw, hspw, hcfgw, ho⟩ := State.popPc_of_pushPc h hr hlt hpush hcfg hsp hb
  refine ⟨w.setPc (s.pcPlus p.2).toNat, ?_, ?_, hspw, ho.setPc⟩
  · simp only [exec, execRet, hw, andThen_next]
  · rw [State.setPc_pc, hcfgw, hpc, Nat.mod_mod]; rfl

/-! ### Returns (41_change_of_flow R210, R211) -/

theorem exec_ret (s : State) : exec .ret s = andThen s.popPc fun p => .next (p.2.setPc p.1) := rfl

/-- RETI is RET and then IrqReturn, with I set where the core does that (R211, R409). -/
theorem exec_reti (s : State) : exec .reti s = andThen s.popPc fun p =>
    .next ((p.2.setPc p.1).setSreg (if s.cfg.retiSetsI then putBit p.2.sreg 7#3 true else p.2.sreg)).irqReturn := rfl

/-- SREG's bits with I set on a condition. -/
theorem setI_bit (sr : Byte) (c : Bool) (j : Nat) (hj : j < 8) :
    (if c then putBit sr 7#3 true else sr).getLsbD j = (sr.getLsbD j || (decide (j = 7) && c)) := by
  cases c
  · simp
  · rw [if_pos rfl, putBit_bit _ _ _ _ hj]
    by_cases h7 : j = 7 <;> simp [h7]

/-- Settles O44: PopPC in RAM by State.popPc_ram_spec, anywhere by State.popPc_eq. -/
theorem returnResult : Obligations.ReturnResult := by
  refine ⟨?_, fun s => ⟨?_, ?_⟩⟩
  · intro s ext hi lo h h3 h2 h1 a
    obtain ⟨t, ht, hcfg, hsp, hpc, ho⟩ := State.popPc_ram_spec h.legal.spBits h3 h2 h1
    have hpc (n : Nat) : (t.setPc n).pc = BitVec.ofNat 22 (n % 2 ^ s.cfg.pcBits) := by rw [State.setPc_pc, hcfg]
    have ho' : s.OnlyChanges t [.sp, .sreg, .inService, .inhibit] := ho.mono (by simp)
    rw [exec_ret, exec_reti, ht]
    refine ⟨⟨_, rfl, hpc a, hsp, ho.setPc⟩, ⟨_, rfl, hpc a, hsp, ?_, rfl, fun j hj => ?_,
      (ho'.setPc.setSreg (by simp)).irqReturn (by simp) (by simp)⟩⟩
    · exact congrArg List.tail (ho.inService (by simp))
    · exact (setI_bit _ _ j hj).trans (by rw [ho.sreg (by simp)])
  · rw [exec_ret, State.popPc_eq, andThen_assoc]
    refine andThen_congr fun p hp => ?_
    rw [andThen_next, State.setPc_eq (State.popBytes_frame hp).cfg]
  · rw [exec_reti, State.popPc_eq, andThen_assoc]
    refine andThen_congr fun p hp => ?_
    have ho := State.popBytes_frame hp
    have hsreg : (if s.cfg.retiSetsI then putBit p.2.sreg 7#3 true else p.2.sreg) =
        p.2.sreg ||| (if s.cfg.retiSetsI then 0x80#8 else 0x00#8) := by
      split
      · rfl
      · exact BitVec.or_zero.symm
    rw [andThen_next, hsreg, State.setPc_eq ho.cfg, ← ho.inService (by simp)]
    rfl

/-! ### Interrupts (60_exceptions R408, R409) -/

/-- The state in which a boundary takes an interrupt. -/
def State.entering (s : State) : State := { s.takeEnv with inhibit := false, sleeping := false }

theorem State.Inv.entering (h : s.Inv) : s.entering.Inv := h.takeEnv.setInhibitSleeping false false

theorem State.eq_entering {m : Nat} {level : IrqLevel} (h : s.boundary = .interrupt m level u) : u = s.entering := by
  rcases s.boundary_cases with e | e | ⟨m', level', -, e⟩ | e | e <;> cases e.symm.trans h
  rfl

/-- EnterIrq by the bytes pushed: afterwards I is masked out where the core clears it, the level is in service, and the
PC is at the vector. -/
theorem State.enterIrq_eq (s : State) (m : Nat) (level : IrqLevel) : s.enterIrq m level =
    andThen (s.pushBytes (Config.returnBytes s.cfg s.pc.toNat)) fun t => .next { t with
      sreg := t.sreg &&& (if s.cfg.irqClearsI then 0x7F#8 else 0xFF#8)
      inService := level :: s.inService
      inhibit := s.inhibit
      pc := BitVec.ofNat 22 ((s.cfg.ivecBase + m * s.cfg.ivecWords) % 2 ^ s.cfg.pcBits) } := by
  rw [State.enterIrq, State.pushPc_eq]
  refine andThen_congr fun t ht => ?_
  obtain ⟨hcfg, hservice⟩ := State.pushBytes_keeps ht
  have hsreg : (if s.cfg.irqClearsI then putBit t.sreg 7#3 false else t.sreg) =
      t.sreg &&& (if s.cfg.irqClearsI then 0x7F#8 else 0xFF#8) := by
    split
    · rfl
    · exact BitVec.and_allOnes.symm
  simp only [hsreg, hservice, vectorAddr]
  exact congrArg Host.Outcome.next (State.setPc_eq (by exact hcfg) _)

/-- A step that takes an interrupt is its entry, in the state that the boundary leaves, and its time. -/
theorem step_of_boundary_interrupt {m : Nat} {level : IrqLevel} (h : s.boundary = .interrupt m level u) :
    step s = andThen (u.enterIrq m level) fun t => .next (t.charge .unstated) := by
  simp only [step, h]

/-- SREG's bits with I masked out on a condition. -/
theorem maskI_bit (sr : Byte) (c : Bool) (j : Nat) (hj : j < 8) :
    (sr &&& (if c then 0x7F#8 else 0xFF#8)).getLsbD j = (sr.getLsbD j && !(decide (j = 7) && c)) := by
  have mask : ∀ (c : Bool) (j : Fin 8), (if c then 0x7F#8 else 0xFF#8).getLsbD j = !(decide (j.val = 7) && c) := by
    decide
  rw [BitVec.getLsbD_and, mask c ⟨j, hj⟩]

/-- Settles O15: the entry by its bytes (State.enterIrq_eq); in RAM PushPC by State.pushPc_ram_spec, and its frame. -/
theorem interruptEntry : Obligations.InterruptEntry := by
  refine ⟨fun s u m level h hr hb => ?_, fun s u m level hb => ?_⟩
  · obtain rfl := State.eq_entering hb
    obtain ⟨t, ht, -, -, -, h0, h1, h2, hsp, ho⟩ := State.pushPc_ram_spec h.entering hr s.entering.pc
    rw [step_of_boundary_interrupt hb, State.enterIrq_eq, ← State.pushPc_eq, ht]
    refine ⟨_, rfl, h0, h1, h2, fun a ha => ?_, hsp, fun j hj => ?_, rfl, ho.sleeping (by simp), rfl, rfl,
      ho.regs_eq (by simp), (State.pushPc_prog ht :), ho.rampx (by simp), ho.rampy (by simp), ho.rampz (by simp),
      ho.rampd (by simp), ho.eind (by simp), ho.hist (by simp)⟩
    · refine ho.ram a ?_
      simp only [List.mem_cons, reduceCtorEq, List.mem_map, List.mem_range, Part.ram.injEq, false_or, not_exists,
        not_and]
      exact fun j hj e => ha j hj e.symm
    · exact (maskI_bit _ _ j hj).trans (by rw [ho.sreg (by simp)]; rfl)
  · obtain rfl := State.eq_entering hb
    rw [step_of_boundary_interrupt hb, State.enterIrq_eq, andThen_assoc]
    exact ⟨rfl, rfl⟩

/-- Settles O16: PopPC gives the interrupted PC back (State.popPc_of_pushPc), and the level that ends is the one that
the entry put in front. -/
theorem interruptRoundTrip : Obligations.InterruptRoundTrip := by
  intro s t u m level h hr he hcfg hsp hservice hb
  obtain ⟨x, hpush, rfl⟩ := State.enterIrq_cases he
  obtain ⟨hcfgx, hservicex⟩ := State.pushPc_keeps hpush
  obtain ⟨w, hw, hspw, hcfgw, ho⟩ := State.popPc_of_pushPc h hr h.pc hpush hcfg hsp hb
  have hcfgu : u.cfg = s.cfg := hcfg.trans hcfgx
  have hsreg (j : Nat) (hj : j < 8) :
      (if u.cfg.retiSetsI then putBit w.sreg 7#3 true else w.sreg).getLsbD j =
        (u.sreg.getLsbD j || (decide (j = 7) && s.cfg.retiSetsI)) := by
    rw [setI_bit _ _ j hj, ho.sreg (by simp), hcfgu]
  rw [exec_reti, hw]
  refine ⟨_, rfl, ?_, hspw, ?_, rfl, ho.regs_eq (by simp), fun j hj => ?_, ?_⟩
  · show BitVec.ofNat 22 (s.pc.toNat % 2 ^ w.cfg.pcBits) = s.pc
    rw [hcfgw, Nat.mod_eq_of_lt h.pc, BitVec.ofNat_toNat, BitVec.setWidth_eq]
  · show w.inService.tail = s.inService
    rw [ho.inService (by simp), hservice]
    exact hservicex
  · exact (hsreg j (by omega)).trans (by simp [show j ≠ 7 by omega])
  · exact (hsreg 7 (by omega)).trans (by simp [flagI])

/-! ### PUSH and POP (42_data_transfer R301, R302) -/

theorem State.memWrite_pc (h : s.memWrite a v = .next t) : t.pc = s.pc ∧ t.cfg = s.cfg := by
  rcases State.memWrite_cases h with ⟨_, rfl⟩ | ⟨i, _, rfl⟩ | ⟨p, _, rfl⟩ | ⟨_, rfl⟩
  · exact ⟨rfl, rfl⟩
  · exact ⟨rfl, rfl⟩
  · exact s.ioWrite_pc p v
  · exact ⟨rfl, rfl⟩

theorem State.memRead_pc (h : s.memRead a = .next (v, t)) : t.pc = s.pc := by
  rcases State.memRead_cases h with rfl | ⟨e, rfl⟩ | ⟨_, rfl⟩ <;> rfl

theorem State.memRead_frame (h : s.memRead a = .next (v, t)) : s.OnlyChanges t [.hist, .draws] :=
  (State.OnlyChanges.refl s _).memRead h (by simp) (by simp)

theorem exec_push (s : State) (d : Reg) : exec (.push d) s = andThen (s.memWrite s.sp.toNat (s.r d)) fun u =>
    .next ((u.setSp (u.sp - 1#16).toNat).advance 1) :=
  andThen_assoc _ _ _

/-- Pop with the place it reads named. -/
theorem State.pop_eq (h : s.cfg.spBits ≤ 16) : s.pop = (s.setSp (s.above 1)).memRead (s.above 1) := by
  have hmod : s.above 1 % 2 ^ s.cfg.spBits = (s.sp + 1#16).toNat % 2 ^ s.cfg.spBits := by
    rw [State.sp_inc h, State.above, Nat.mod_mod]
  have hset : s.setSp (s.sp + 1#16).toNat = s.setSp (s.above 1) := by rw [State.setSp, State.setSp, hmod]
  have hsp : (s.setSp (s.above 1)).sp.toNat = s.above 1 := by
    rw [State.setSp_toNat h, hmod, State.sp_inc h]
  rw [State.pop, hset, hsp]

theorem exec_pop (h : s.cfg.spBits ≤ 16) (d : Reg) : exec (.pop d) s =
    andThen ((s.setSp (s.above 1)).memRead (s.above 1)) fun p => .next ((p.2.setR d p.1).advance 1) := by
  rw [← State.pop_eq h]; rfl

/-- PUSH where the write answers. -/
theorem exec_push_of_memWrite (h : s.Inv) (hw : s.memWrite s.sp.toNat (s.r d) = .next u) :
    ∃ t, exec (.push d) s = .next t ∧ t.data = u.data ∧ t.sp.toNat = u.below 1 ∧ t.pc = s.pcPlus 1 ∧
      u.OnlyChanges t [.sp] := by
  have hu := h.memWrite hw
  obtain ⟨hpc, hcfg⟩ := State.memWrite_pc hw
  rw [exec_push, hw]
  refine ⟨_, rfl, rfl, ?_, State.advance_pc_eq (u := u.setSp _) hpc hcfg 1,
    ((State.OnlyChanges.refl u _).setSp (by simp)).advance⟩
  exact (State.setSp_toNat hu.legal.spBits _).trans (State.sp_dec hu)

/-- POP where the read answers. -/
theorem exec_pop_of_memRead (h : s.Inv) (hm : (s.setSp (s.above 1)).memRead (s.above 1) = .next (v, u)) (d : Reg) :
    ∃ t, exec (.pop d) s = .next t ∧ t.r d = v ∧ t.sp.toNat = s.above 1 ∧ t.pc = s.pcPlus 1 ∧
      u.OnlyChanges t [.reg d] := by
  have ho := State.memRead_frame hm
  have hpc := State.memRead_pc hm
  rw [exec_pop h.legal.spBits, hm]
  refine ⟨_, rfl, u.setR_r_self d v, ?_, State.advance_pc_eq (u := u.setR d v) hpc ho.cfg 1,
    ((State.OnlyChanges.refl u _).setR (by simp)).advance⟩
  show u.sp.toNat = _
  rw [ho.sp (by simp), State.setSp_toNat h.legal.spBits, State.above, Nat.mod_mod]

/-- Settles O58: PUSH is MemWrite at SP and POP MemRead above it, and they stop where those stop. -/
theorem pushAndPop : Obligations.PushAndPop := by
  intro s d h
  have hb := h.legal.spBits
  refine ⟨fun hl => ?_, fun u hw => ?_, fun hl => ?_, fun o m hl => ?_, fun f hw => ?_, fun f hw => ?_, fun v hv => ?_,
    fun u v hm => exec_pop_of_memRead h hm d, fun hl => ?_, fun o m hl hbeyond => ?_, fun f hm => ?_⟩
  · obtain ⟨t, ht, hdata, hsp, hpc, ho⟩ := exec_push_of_memWrite h (State.memWrite_ram (s.r d) hl)
    refine ⟨t, ht, ?_, hsp, hpc, ?_⟩
    · rw [State.ramByte, hdata]; exact s.ramByte_ramWrite _ _
    · exact ((State.OnlyChanges.refl s _).ramWrite (by simp)).trans (ho.mono (by simp))
  · obtain ⟨t, ht, -, hsp, hpc, ho⟩ := exec_push_of_memWrite h hw
    exact ⟨t, ht, hsp, hpc, ho⟩
  · rw [exec_push, State.memWrite_unmapped _ hl]; rfl
  · rw [exec_push, State.memWrite_window _ hl]; rfl
  · rw [exec_push, hw]; rfl
  · rw [exec_push, hw]; rfl
  · have hm : (s.setSp (s.above 1)).memRead (s.above 1) = .next (v, s.setSp (s.above 1)) := State.memRead_ram hv.1 hv.2
    obtain ⟨t, ht, hr, hsp, hpc, ho⟩ := exec_pop_of_memRead h hm d
    exact ⟨t, ht, hr, hsp, hpc, ((State.OnlyChanges.refl s _).setSp (by simp)).trans (ho.mono (by simp))⟩
  · rw [exec_pop hb, State.memRead_unmapped (s := s.setSp _) hl]; rfl
  · rw [exec_pop hb, State.memRead_window_beyond (s := s.setSp _) hl hbeyond]; rfl
  · rw [exec_pop hb, hm]; rfl

end Sys2Proof.Machine
end

section
/-! Skips on I/O bits, loads and stores, and the instructions on program space (41_change_of_flow R218, R219;
42_data_transfer R268 to R298). -/

namespace Sys2Proof.Machine

variable {s t u : State} {a n : Nat} {v : Byte} {p : Ptr} {d r : Reg} {ps : List Part}

/-! ### SBIC and SBIS -/

theorem State.skipIf_false (s : State) : s.skipIf false = .next (s.advance 1) := by
  unfold State.skipIf
  split <;> rfl

/-- A skip goes over the next word, by its length (R201), and stops where it has to read it beyond FLASHEND (R64). -/
theorem State.skipIf_true (s : State) : s.skipIf true =
    if s.cfg.flashEnd < s.nextWord then .fault (.unmappedProgram s.nextWord)
    else .next (s.advance (1 + instrLen s.cfg.core (s.prog.flashWord s.nextWord))) := by
  rw [State.skipIf, State.progWord, ← State.nextWord]
  split <;> rename_i h <;> split at h <;> rename_i hend
  · cases h
  · cases h; rw [if_neg hend]; rfl
  · cases h; rw [if_pos hend]; rfl
  · cases h
  · cases h
  · cases h

/-- Settles O47: one I/O read, which changes at most the history, and then the skip in the state it leaves. -/
theorem skipIoResult : Obligations.SkipIoResult := by
  intro s a b nxt v p hp
  have hexec : exec p.1 s = (s.ioRead a.toNat).2.skipIf p.2 := by
    simp only [List.mem_cons, List.not_mem_nil, or_false] at hp
    rcases hp with rfl | rfl
    · exact congrArg (s.ioRead a.toNat).2.skipIf (beq_false _)
    · exact congrArg (s.ioRead a.toNat).2.skipIf (beq_true _)
  obtain ⟨hpc, hcfg⟩ := s.ioRead_pc a.toNat
  have hprog := s.ioRead_prog a.toNat
  have hnext : (s.ioRead a.toNat).2.nextWord = nxt := by rw [State.nextWord, hpc, hcfg]
  have hframe (n : Nat) : s.OnlyChanges ((s.ioRead a.toNat).2.advance n) [.hist] :=
    ((State.OnlyChanges.refl s _).ioRead (by simp)).advance
  rw [hexec]
  refine ⟨fun hc => ?_, fun hc hend => ?_, fun hc hend => ?_⟩
  · rw [hc, State.skipIf_false]
    exact ⟨_, rfl, State.advance_pc_eq hpc hcfg 1, s.ioRead_hist a.toNat, hframe _⟩
  · rw [hc, State.skipIf_true, hnext, hcfg, hprog, if_neg (Nat.not_lt.2 hend)]
    exact ⟨_, rfl, State.advance_pc_eq hpc hcfg _, s.ioRead_hist a.toNat, hframe _⟩
  · rw [hc, State.skipIf_true, hnext, hcfg, if_pos hend]

/-! ### Loads that step the pointer (42_data_transfer R268 to R276) -/

theorem loadInc_eq (h : p.holds d = false) (mn : String) (s : State) : loadInc mn p d s =
    andThen (s.memRead (s.ptrGet p)) fun x => .next (((x.2.ptrSet p (s.ptrUp p)).setR d x.1).advance 1) := by
  simp [loadInc, h]

theorem loadDec_eq (h : p.holds d = false) (mn : String) (s : State) : loadDec mn p d s =
    andThen ((s.ptrSet p (s.ptrDown p)).memRead (s.ptrDown p)) fun x => .next ((x.2.setR d x.1).advance 1) := by
  simp [loadDec, h, loadAt]

/-- A register that is no half of the pair. -/
theorem State.pair_setR {i j : Reg} (h : i ≠ j) (h' : i ≠ j + 1) (s : State) (v : Byte) :
    (s.setR i v).pair j = s.pair j := by
  rw [State.pair, State.pair, State.setR_r_ne _ _ _ _ h, State.setR_r_ne _ _ _ _ h']

/-- A register beside the pointer. -/
theorem State.ptrGet_setR (h : p.holds d = false) (s : State) (v : Byte) : (s.setR d v).ptrGet p = s.ptrGet p := by
  simp only [Ptr.holds, Bool.or_eq_false_iff, beq_eq_false_iff_ne] at h
  obtain ⟨hlo, hhi⟩ := h
  have hramp : (s.setR d v).ramp p = s.ramp p := by cases p <;> rfl
  simp only [State.ptrGet, State.setR_cfg, State.setR_r_ne _ _ _ v hlo, State.pair_setR hlo hhi, hramp]

/-- A read of data space leaves the pointers. -/
theorem State.memRead_ptrGet (h : s.memRead a = .next (v, u)) (p : Ptr) : u.ptrGet p = s.ptrGet p := by
  rcases State.memRead_cases h with rfl | ⟨e, rfl⟩ | ⟨_, rfl⟩ <;> rfl

/-- What follows the read of a load, in a state `t` beside it that differs in the pointer. -/
theorem setR_advance_result (h : p.holds d = false) (v : Byte) (hp : t.pc = s.pc) (hc : t.cfg = s.cfg) :
    ((t.setR d v).advance 1).r d = v ∧ ((t.setR d v).advance 1).ptrGet p = t.ptrGet p ∧
      ((t.setR d v).advance 1).pc = s.pcPlus 1 :=
  ⟨t.setR_r_self d v, t.ptrGet_setR h v, State.advance_pc_eq (u := t.setR d v) hp hc 1⟩

/-- The post-increment: the byte at the pointer, and the pointer one up. -/
theorem loadInc_of_memRead (h : p.holds d = false) (hw : s.cfg.ptrWidth = .w24 → Config.hasRamp s.cfg p = true)
    (hm : s.memRead (s.ptrGet p) = .next (v, u)) (mn : String) :
    ∃ t, loadInc mn p d s = .next t ∧ t.r d = v ∧
      (t.ptrGet p : Int) = ((s.ptrGet p : Int) + 1) % (2 ^ s.cfg.ptrWidth.bits : Nat) ∧ t.pc = s.pcPlus 1 ∧
      u.OnlyChanges t (.reg d :: p.parts s.cfg.ptrWidth) ∧
      s.OnlyChanges t (.reg d :: .hist :: .draws :: p.parts s.cfg.ptrWidth) := by
  have hread := State.memRead_frame hm
  have hset : u.OnlyChanges (u.ptrSet p (s.ptrUp p)) (.reg d :: p.parts s.cfg.ptrWidth) :=
    (State.OnlyChanges.refl u _).ptrSet fun q hq => List.mem_cons_of_mem _ (hread.cfg ▸ hq)
  have hframe := (hset.setR (v := v) (List.mem_cons_self ..)).advance (n := 1)
  obtain ⟨hpc, -, -⟩ := u.ptrSet_keeps p (s.ptrUp p)
  obtain ⟨hr, hptr, hpc⟩ := setR_advance_result (s := s) h v (hpc.trans (State.memRead_pc hm))
    ((u.ptrSet_cfg p _).trans hread.cfg)
  rw [loadInc_eq h, hm]
  refine ⟨_, rfl, hr, ?_, hpc, hframe, (hread.mono ?_).trans (hframe.mono ?_)⟩
  · rw [hptr, State.ptrGet_ptrSet (hread.cfg ▸ hw), hread.cfg, Nat.mod_eq_of_lt (s.ptrUp_lt p), s.ptrUp_int]
  · simp
  · simp only [List.mem_cons]; tauto

/-- The pre-decrement: the byte at the pointer less one, read with the pointer already there. -/
theorem loadDec_of_memRead (h : p.holds d = false) (hw : s.cfg.ptrWidth = .w24 → Config.hasRamp s.cfg p = true)
    (hm : (s.ptrSet p (s.ptrDown p)).memRead (s.ptrDown p) = .next (v, u)) (mn : String) :
    ∃ t, loadDec mn p d s = .next t ∧ t.r d = v ∧
      (t.ptrGet p : Int) = ((s.ptrGet p : Int) + -1) % (2 ^ s.cfg.ptrWidth.bits : Nat) ∧ t.pc = s.pcPlus 1 ∧
      u.OnlyChanges t (.reg d :: p.parts s.cfg.ptrWidth) ∧
      s.OnlyChanges t (.reg d :: .hist :: .draws :: p.parts s.cfg.ptrWidth) := by
  have hset : s.OnlyChanges (s.ptrSet p (s.ptrDown p)) (.reg d :: .hist :: .draws :: p.parts s.cfg.ptrWidth) :=
    (State.OnlyChanges.refl s _).ptrSet fun q hq => by simp only [List.mem_cons]; tauto
  have hread := State.memRead_frame hm
  have hframe : u.OnlyChanges ((u.setR d v).advance 1) (.reg d :: p.parts s.cfg.ptrWidth) :=
    ((State.OnlyChanges.refl u _).setR (List.mem_cons_self ..)).advance
  obtain ⟨hpc, -, -⟩ := s.ptrSet_keeps p (s.ptrDown p)
  obtain ⟨hr, hptr, hpc⟩ := setR_advance_result (s := s) h v ((State.memRead_pc hm).trans hpc)
    (hread.cfg.trans (s.ptrSet_cfg p _))
  rw [loadDec_eq h, hm]
  refine ⟨_, rfl, hr, ?_, hpc, hframe, (hset.trans (hread.mono ?_)).trans (hframe.mono ?_)⟩
  · rw [hptr, State.memRead_ptrGet hm, State.ptrGet_ptrSet hw, Nat.mod_eq_of_lt (s.ptrDown_lt p), s.ptrDown_int]
  · simp
  · simp only [List.mem_cons]; tauto

/-- Settles O50: the two modes, each where the read answers and where it stops. -/
theorem loadStepping : Obligations.LoadStepping := by
  intro s u d v x hx h hw
  simp only [List.mem_cons, List.not_mem_nil, or_false] at hx
  rcases hx with rfl | rfl | rfl | rfl | rfl | rfl
  iterate 3
    refine ⟨fun hm => loadInc_of_memRead h hw hm "LD", fun f hf => ?_⟩
    exact (loadInc_eq h "LD" s).trans (by rw [hf]; rfl)
  all_goals
    refine ⟨fun hm => loadDec_of_memRead h hw hm "LD", fun f hf => ?_⟩
    exact (loadDec_eq h "LD" s).trans (by rw [hf]; rfl)

/-! ### Stores that leave the pointer alone (42_data_transfer R278 to R290) -/

/-- A store where the write answers: what the write did, and the PC past the instruction. -/
theorem storeAt_of_memWrite (hm : s.memWrite a (s.r r) = .next u) (ho : s.OnlyChanges u ps) (n : Nat) :
    storeAt a r n s = .next (u.advance n) ∧ (u.advance n).pc = s.pcPlus n ∧ s.OnlyChanges (u.advance n) ps := by
  obtain ⟨hpc, hcfg⟩ := State.memWrite_pc hm
  exact ⟨by rw [storeAt, hm]; rfl, State.advance_pc_eq hpc hcfg n, ho.advance⟩

/-- Settles O51: every one of the seven is storeAt at its address, and then by the class, as the write answers. -/
theorem storeResult : Obligations.StoreResult := by
  intro s r q k k8 x hx
  have hexec : exec x.1 s = storeAt x.2.1 r x.2.2 s := by
    simp only [List.mem_cons, List.not_mem_nil, or_false] at hx
    rcases hx with rfl | rfl | rfl | rfl | rfl | rfl | rfl <;> rfl
  rw [hexec]
  obtain ⟨-, a, n⟩ := x
  have hrefl (ps : List Part) : s.OnlyChanges s ps := .refl s ps
  refine ⟨fun hl => ?_, fun m hl hm => ?_, fun m hl => ?_, fun i hl => ?_, fun hl => ?_, fun hl => ?_, fun o m hl => ?_,
    fun hl => ?_⟩
  · obtain ⟨he, hpc, ho⟩ := storeAt_of_memWrite (State.memWrite_ram (s.r r) hl)
      ((hrefl [.ram a]).ramWrite (by simp)) n
    exact ⟨_, he, s.ramByte_ramWrite a _, hpc, ho⟩
  · obtain ⟨he, hpc, ho⟩ := storeAt_of_memWrite (State.memWrite_oracle (s.r r) (.inr ⟨m, hl, hm, rfl⟩))
      ((hrefl [.hist]).event (by simp)) n
    exact ⟨_, he, rfl, hpc, ho⟩
  · have hw := State.memWrite_io (s.r r) hl
    obtain ⟨hpc, hcfg⟩ := State.memWrite_pc hw
    exact ⟨_, by rw [storeAt, hw]; rfl, State.advance_pc_eq hpc hcfg n, (State.OnlyChanges.refl _ _).advance⟩
  · obtain ⟨he, hpc, ho⟩ := storeAt_of_memWrite (State.memWrite_reg (s.r r) hl) ((hrefl [.reg i]).setR (by simp)) n
    exact ⟨_, he, s.setR_r_self i _, hpc, ho⟩
  · have hsreg : s.ioWrite s.cfg.sregIo (s.r r) = s.storeSreg (s.r r) := if_pos rfl
    obtain ⟨he, hpc, ho⟩ := storeAt_of_memWrite (hsreg ▸ State.memWrite_io (s.r r) hl)
      ((hrefl [.sreg, .inhibit]).storeSreg (by simp) (by simp)) n
    exact ⟨_, he, rfl, hpc, ho⟩
  · obtain ⟨he, hpc, ho⟩ := storeAt_of_memWrite (State.memWrite_other (s.r r) hl) ((hrefl [.hist]).event (by simp)) n
    exact ⟨_, he, rfl, hpc, ho⟩
  · rw [storeAt, State.memWrite_window _ hl]; rfl
  · rw [storeAt, State.memWrite_unmapped _ hl]; rfl

/-! ### Addresses in program space (42_data_transfer R291, R294) -/

theorem State.lpmAddr_eq (s : State) : s.lpmAddr = (s.r 31).toNat * 256 + (s.r 30).toNat := s.pair_toNat 30

theorem State.elpmAddr_eq (s : State) :
    s.elpmAddr = s.getRampz.toNat * 65536 + ((s.r 31).toNat * 256 + (s.r 30).toNat) := by
  rw [State.elpmAddr, byteAppendWord_toNat]
  exact congrArg _ (s.pair_toNat 30)

/-- Z after a write of its pair. -/
theorem State.setPair_z (s : State) (w : BitVec 16) :
    ((s.setPair 30 w).r 31).toNat * 256 + ((s.setPair 30 w).r 30).toNat = w.toNat := by
  rw [← State.lpmAddr_eq, State.lpmAddr, State.pair_setPair]

/-- Z after a write of RAMPZ:Z. -/
theorem State.setElpmAddr_z (s : State) (n : Nat) :
    ((s.setElpmAddr n).r 31).toNat * 256 + ((s.setElpmAddr n).r 30).toNat = n % 65536 :=
  (s.setPair_z _).trans (BitVec.toNat_ofNat ..)

/-- RAMPZ after a write of RAMPZ:Z, on a device that has it. -/
theorem State.setElpmAddr_rampz (h : s.cfg.hasRampz = true) (n : Nat) :
    (s.setElpmAddr n).rampz.toNat = n / 65536 % 256 := by
  have hrampz : (s.setElpmAddr n).rampz = (BitVec.ofNat 24 n).extractLsb' 16 8 := if_pos h
  rw [hrampz, BitVec.extractLsb'_toNat, Nat.shiftRight_eq_div_pow, BitVec.toNat_ofNat]
  omega

/-! ### LPM and ELPM -/

theorem loadProg_within (h : a / 2 ≤ s.cfg.flashEnd) (d : Reg) :
    loadProg a d s = .next ((s.setR d (s.prog.flashByte a)).advance 1) := by
  rw [loadProg, State.progByte_eq, if_neg (Nat.not_lt.2 h)]; rfl

theorem loadProg_beyond (h : s.cfg.flashEnd < a / 2) (d : Reg) :
    loadProg a d s = .fault (.unmappedProgram (a / 2)) := by
  rw [loadProg, State.progByte_eq, if_pos h]; rfl

/-- R0 to R29 are beside Z. -/
theorem Ptr.z_holds_of_lt (h : d.val < 30) : Ptr.z.holds d = false := by
  revert d; decide

theorem exec_lpmZInc (h : d.val < 30) (s : State) : exec (.lpmZInc d) s = andThen (s.progByte s.lpmAddr) fun v =>
    .next (((s.setPair 30 (s.pair 30 + 1#16)).setR d v).advance 1) := by
  simp [exec, execLpmZInc, Ptr.z_holds_of_lt h]

theorem exec_elpmZInc (h : d.val < 30) (s : State) : exec (.elpmZInc d) s = andThen (s.progByte s.elpmAddr) fun v =>
    .next (((s.setElpmAddr ((s.elpmAddr + 1) % 2 ^ 24)).setR d v).advance 1) := by
  simp [exec, execElpmZInc, Ptr.z_holds_of_lt h]

/-- Z beside the register that a load writes. -/
theorem State.setR_advance_z (h : d.val < 30) (s : State) (v : Byte) :
    ((s.setR d v).advance 1).r 31 = s.r 31 ∧ ((s.setR d v).advance 1).r 30 = s.r 30 :=
  ⟨s.setR_r_ne d 31 v (by rintro rfl; simp at h), s.setR_r_ne d 30 v (by rintro rfl; simp at h)⟩

/-- LPM Rd,Z+ within FLASHEND: the byte at Z, and Z one up without its carry. -/
theorem exec_lpmZInc_within (h : d.val < 30) (hend : s.lpmAddr / 2 ≤ s.cfg.flashEnd) :
    ∃ t, exec (.lpmZInc d) s = .next t ∧ t.r d = s.prog.flashByte s.lpmAddr ∧
      (t.r 31).toNat * 256 + (t.r 30).toNat = (s.lpmAddr + 1) % 65536 ∧ t.pc = s.pcPlus 1 ∧
      s.OnlyChanges t [.reg d, .reg 30, .reg 31] := by
  rw [exec_lpmZInc h, State.progByte_eq, if_neg (Nat.not_lt.2 hend)]
  obtain ⟨h31, h30⟩ := (s.setPair 30 (s.pair 30 + 1#16)).setR_advance_z h (s.prog.flashByte s.lpmAddr)
  refine ⟨_, rfl, State.setR_r_self _ d _, ?_, rfl,
    (((State.OnlyChanges.refl s _).setPair (by simp) (by simp)).setR (by simp)).advance⟩
  rw [h31, h30, State.setPair_z, BitVec.toNat_add]; rfl

/-- ELPM Rd,Z+ within FLASHEND: the byte at RAMPZ:Z, and RAMPZ:Z one up. -/
theorem exec_elpmZInc_within (h : d.val < 30) (hz : s.cfg.hasRampz = true) (hend : s.elpmAddr / 2 ≤ s.cfg.flashEnd) :
    ∃ t, exec (.elpmZInc d) s = .next t ∧ t.r d = s.prog.flashByte s.elpmAddr ∧
      t.rampz.toNat * 65536 + (t.r 31).toNat * 256 + (t.r 30).toNat = (s.elpmAddr + 1) % 2 ^ 24 ∧ t.pc = s.pcPlus 1 ∧
      s.OnlyChanges t [.reg d, .reg 30, .reg 31, .rampz] := by
  rw [exec_elpmZInc h, State.progByte_eq, if_neg (Nat.not_lt.2 hend)]
  obtain ⟨n, hn⟩ : ∃ n, n = (s.elpmAddr + 1) % 2 ^ 24 := ⟨_, rfl⟩
  rw [← hn]
  obtain ⟨h31, h30⟩ := (s.setElpmAddr n).setR_advance_z h (s.prog.flashByte s.elpmAddr)
  refine ⟨_, rfl, State.setR_r_self _ d _, ?_, rfl,
    (((State.OnlyChanges.refl s _).setElpmAddr (by simp) (by simp) (by simp)).setR (by simp)).advance⟩
  rw [h31, h30, State.advance_rampz, State.setR_rampz, Nat.add_assoc, s.setElpmAddr_z n, State.setElpmAddr_rampz hz n]
  omega

/-- Settles O54: the four forms without stepping are loadProg at their address; LPM Z+ and ELPM Z+ as above. -/
theorem programLoad : Obligations.ProgramLoad := by
  intro s d z rz
  have hz : s.lpmAddr = z := s.lpmAddr_eq
  have hrz : s.elpmAddr = rz := s.elpmAddr_eq
  refine ⟨fun x hx => ?_, fun h hend => ?_, fun h hend => ?_, fun h hend => ?_, fun h hramp hend => ?_⟩
  · have hexec : exec x.1 s = loadProg x.2.2 x.2.1 s := by
      rw [← hz, ← hrz] at hx
      simp only [List.mem_cons, List.not_mem_nil, or_false] at hx
      rcases hx with rfl | rfl | rfl | rfl <;> rfl
    rw [hexec]
    refine ⟨fun hend => ⟨_, loadProg_within hend x.2.1, s.setR_r_self _ _, rfl, ?_⟩,
      fun hend => loadProg_beyond hend x.2.1⟩
    exact ((State.OnlyChanges.refl s _).setR (by simp)).advance
  · rw [← hz] at hend ⊢
    exact exec_lpmZInc_within h hend
  · rw [exec_lpmZInc h, State.progByte_eq, hz, if_pos hend]; rfl
  · rw [exec_elpmZInc h, State.progByte_eq, hrz, if_pos hend]; rfl
  · rw [← hrz] at hend ⊢
    exact exec_elpmZInc_within h hramp hend

/-! ### SPM (42_data_transfer R297, R298) -/

theorem exec_spm (s : State) : exec .spm s = andThen (spmWrite s) fun t => .next (t.advance 1) := rfl

theorem exec_spmZInc (s : State) : exec .spmZInc s =
    andThen (spmWrite s) fun t => .next ((t.setElpmAddr ((s.elpmAddr + 2) % 2 ^ 24)).advance 1) := rfl

/-- The step of Z after SPM Z+, with its carry into RAMPZ. -/
theorem State.setElpmAddr_add_two (t : State) (b : Nat) :
    ((t.setElpmAddr ((b + 2) % 2 ^ 24)).r 31).toNat * 256 + ((t.setElpmAddr ((b + 2) % 2 ^ 24)).r 30).toNat =
        (b + 2) % 65536 ∧
      (t.cfg.hasRampz = true → (t.setElpmAddr ((b + 2) % 2 ^ 24)).rampz.toNat = (b + 2) / 65536 % 256) := by
  refine ⟨(t.setElpmAddr_z _).trans (by omega), fun h => (State.setElpmAddr_rampz h _).trans (by omega)⟩

/-- SPM where the operation answers `t`; `w` is what its frame is counted from. -/
theorem exec_spm_of_spmWrite {w : State} (hw : spmWrite s = .next t) (hp : t.pc = s.pc) (hc : t.cfg = s.cfg)
    (ho : w.OnlyChanges t ps) : ∃ t', exec .spm s = .next t' ∧ t'.prog = t.prog ∧ t'.hist = t.hist ∧
      t'.pc = s.pcPlus 1 ∧ w.OnlyChanges t' ps := by
  rw [exec_spm, hw]
  exact ⟨_, rfl, rfl, rfl, State.advance_pc_eq hp hc 1, ho.advance⟩

/-- SPM Z+ where the operation answers `t`: the same, and RAMPZ:Z two up. -/
theorem exec_spmZInc_of_spmWrite {w : State} (hw : spmWrite s = .next t) (hp : t.pc = s.pc) (hc : t.cfg = s.cfg)
    (ho : w.OnlyChanges t ps) : ∃ t', exec .spmZInc s = .next t' ∧ t'.prog = t.prog ∧ t'.hist = t.hist ∧
      t'.pc = s.pcPlus 1 ∧ (t'.r 31).toNat * 256 + (t'.r 30).toNat = (s.elpmAddr + 2) % 65536 ∧
      (s.cfg.hasRampz = true → t'.rampz.toNat = (s.elpmAddr + 2) / 65536 % 256) ∧
      w.OnlyChanges t' (ps ++ [.reg 30, .reg 31, .rampz]) := by
  obtain ⟨hz, hrampz⟩ := t.setElpmAddr_add_two s.elpmAddr
  rw [exec_spmZInc, hw]
  exact ⟨_, rfl, rfl, rfl, State.advance_pc_eq (u := t.setElpmAddr _) hp hc 1, hz, fun h => hrampz (hc ▸ h),
    ((ho.mono fun q hq => List.mem_append_left _ hq).setElpmAddr (by simp) (by simp) (by simp)).advance⟩

/-- Settles O55: by SpmEffect, spmWrite is refused, State.setProgWord or State.spmDevice. -/
theorem storeProgram : Obligations.StoreProgram := by
  intro s b
  have hb : s.elpmAddr = b := s.elpmAddr_eq.trans (Nat.add_assoc _ _ _).symm
  have hword : (s.pair 0).toNat = (s.r 1).toNat * 256 + (s.r 0).toNat := s.pair_toNat 0
  refine ⟨fun i hi he => exec_spm_absent he i hi, fun i hi he hend => ?_, fun hwf he hend => ?_, ?_⟩
  · have hwrite : spmWrite s = .fault (.unmappedProgram (b / 2)) := by
      simp only [spmWrite, he, hb, State.setProgWord, if_pos hend]
    simp only [List.mem_cons, List.not_mem_nil, or_false] at hi
    rcases hi with rfl | rfl
    · rw [exec_spm, hwrite]; rfl
    · rw [exec_spmZInc, hwrite]; rfl
  · have hset : s.setProgWord b (s.pair 0) = .next { s with prog := s.prog.setFlashWord (b / 2) (s.pair 0) } :=
      if_neg (Nat.not_lt.2 hend)
    have hwrite : spmWrite s = .next { s with prog := s.prog.setFlashWord (b / 2) (s.pair 0) } := by
      simp only [spmWrite, he, hb, hset]
    have ho := (State.OnlyChanges.refl s [.flash (2 * (b / 2)), .flash (2 * (b / 2) + 1)]).setProgWord hwf hset
      (by simp) (by simp)
    have hflash : (Memory.flashWord (s.prog.setFlashWord (b / 2) (s.pair 0)) (b / 2)).toNat =
        (s.r 1).toNat * 256 + (s.r 0).toNat := by
      rw [Memory.flashWord_setFlashWord _ _ _ _ hwf, if_pos rfl, hword]
    obtain ⟨t, ht, hprog, -, hpc, hframe⟩ := exec_spm_of_spmWrite hwrite rfl rfl ho
    obtain ⟨t', ht', hprog', -, hpc', hz, hrampz, hframe'⟩ := exec_spmZInc_of_spmWrite hwrite rfl rfl ho
    rw [hb] at hz hrampz
    exact ⟨⟨t, ht, hprog ▸ hflash, hpc, hframe⟩, ⟨t', ht', hprog' ▸ hflash, hpc', hz, hrampz, hframe'⟩⟩
  · intro he w p
    have hpair : s.pair 0 = w := (BitVec.setWidth_eq _).symm.trans (by rw [← BitVec.ofNat_toNat, hword])
    have hwrite : spmWrite s = .next (s.spmDevice b w) := by simp only [spmWrite, he, hb, hpair]
    have ho := s.spmDevice_onlyChanges b w
    obtain ⟨t, ht, hprog, hhist, hpc, hframe⟩ := exec_spm_of_spmWrite hwrite rfl rfl ho
    obtain ⟨t', ht', hprog', hhist', hpc', hz, hrampz, hframe'⟩ := exec_spmZInc_of_spmWrite hwrite rfl rfl ho
    rw [hb] at hz hrampz
    exact ⟨⟨t, ht, hprog, hhist, hpc, hframe⟩, ⟨t', ht', hprog', hhist', hpc', hz, hrampz, hframe'⟩⟩

end Sys2Proof.Machine
end

section
/-! Instruction words as numbers: each field of a word, and each format of the encoder as the words that have its opcode
and its operands (30_encoding R103 to R106). -/

namespace Sys2Proof

variable {w w1 : Word}

/-! ### Digits of words -/

theorem append_toNat {m n : Nat} (x : BitVec m) (y : BitVec n) : (x ++ y).toNat = x.toNat * 2 ^ n + y.toNat := by
  rw [BitVec.toNat_append, ← Nat.shiftLeft_add_eq_or_of_lt y.isLt, Nat.shiftLeft_eq]

theorem extract_toNat {m : Nat} (x : BitVec m) (s n : Nat) : (x.extractLsb' s n).toNat = x.toNat / 2 ^ s % 2 ^ n := by
  rw [BitVec.extractLsb'_toNat, Nat.shiftRight_eq_div_pow]

theorem getLsbD_iff {m : Nat} (x : BitVec m) (k : Nat) : x.getLsbD k = true ↔ x.toNat / 2 ^ k % 2 = 1 := by
  rw [BitVec.getLsbD, Nat.testBit_eq_decide_div_mod_eq, decide_eq_true_iff]

theorem getLsbD_false_iff {m : Nat} (x : BitVec m) (k : Nat) : x.getLsbD k = false ↔ x.toNat / 2 ^ k % 2 = 0 := by
  rw [← Bool.not_eq_true, getLsbD_iff]
  omega

/-! ### Fields -/

theorem fieldD5_val (w : Word) : (fieldD5 w).val = w.toNat / 16 % 32 := extract_toNat w 4 5

theorem fieldR5_val (w : Word) : (fieldR5 w).val = w.toNat / 512 % 2 * 16 + w.toNat % 16 := by
  show (w.extractLsb' 9 1 ++ w.extractLsb' 0 4).toNat = _
  simp only [append_toNat, extract_toNat]
  omega

theorem fieldD4_val (w : Word) : (fieldD4 w).val = 16 + w.toNat / 16 % 16 := by
  simp only [fieldD4, regUpper, extract_toNat]
  omega

theorem fieldK8_toNat (w : Word) : (fieldK8 w).toNat = w.toNat / 256 % 16 * 16 + w.toNat % 16 := by
  simp only [fieldK8, append_toNat, extract_toNat]
  omega

theorem fieldK6_toNat (w : Word) : (fieldK6 w).toNat = w.toNat / 64 % 4 * 16 + w.toNat % 16 := by
  simp only [fieldK6, append_toNat, extract_toNat]
  omega

theorem fieldDp_val (w : Word) : (fieldDp w).val = 24 + 2 * (w.toNat / 16 % 4) := by
  simp only [fieldDp, regUpperPair, extract_toNat]
  omega

theorem fieldQ_toNat (w : Word) :
    (fieldQ w).toNat = w.toNat / 8192 % 2 * 32 + w.toNat / 1024 % 4 * 8 + w.toNat % 8 := by
  simp only [fieldQ, append_toNat, extract_toNat]
  omega

/-- The displacement 0, of the plain LD and ST (R117). -/
theorem fieldQ_eq_zero_iff : fieldQ w = 0#6 ↔ w.toNat / 8192 % 2 = 0 ∧ w.toNat / 1024 % 4 = 0 ∧ w.toNat % 8 = 0 := by
  simp only [← BitVec.toNat_inj, fieldQ_toNat, BitVec.toNat_ofNat]
  omega

theorem fieldA6_toNat (w : Word) : (fieldA6 w).toNat = w.toNat / 512 % 4 * 16 + w.toNat % 16 := by
  simp only [fieldA6, append_toNat, extract_toNat]
  omega

theorem fieldA5_toNat (w : Word) : (fieldA5 w).toNat = w.toNat / 8 % 32 := extract_toNat w 3 5

theorem fieldB3_toNat (w : Word) : (fieldB3 w).toNat = w.toNat % 8 := by
  simp [fieldB3]

theorem fieldK7_toNat (w : Word) : (fieldK7 w).toNat = w.toNat / 8 % 128 := extract_toNat w 3 7

theorem fieldK12_toNat (w : Word) : (fieldK12 w).toNat = w.toNat % 4096 := by
  simp [fieldK12]

theorem fieldK22_toNat (w w1 : Word) :
    (fieldK22 w w1).toNat = (w.toNat / 16 % 32 * 2 + w.toNat % 2) * 65536 + w1.toNat := by
  simp only [fieldK22, append_toNat, extract_toNat]
  omega

/-! ### Formats

A word is in a format exactly when it has its opcode digits, and its operands are then the fields of the word. The opcode
is a number; where an operand's class (10_state R22) is narrower than its type, the class stands beside the format. -/

theorem encRdRr_eq_iff {op : Nat} {d r : Reg} :
    encRdRr (BitVec.ofNat 6 op) d r = w ↔ w.toNat / 1024 = op % 64 ∧ fieldD5 w = d ∧ fieldR5 w = r := by
  simp only [← BitVec.toNat_inj, Fin.ext_iff, fieldD5_val, fieldR5_val, encRdRr, append_toNat, extract_toNat,
    BitVec.toNat_ofFin, BitVec.toNat_ofNat]
  have := w.isLt
  omega

theorem encRdK8_eq_iff {op : Nat} {d : Reg} {k : BitVec 8} :
    d.isUpper = true ∧ encRdK8 (BitVec.ofNat 4 op) d k = w ↔
      w.toNat / 4096 = op % 16 ∧ fieldD4 w = d ∧ fieldK8 w = k := by
  simp only [← BitVec.toNat_inj, Fin.ext_iff, Reg.isUpper, decide_eq_true_iff, fieldD4_val, fieldK8_toNat, encRdK8,
    append_toNat, extract_toNat, BitVec.toNat_ofNat]
  omega

theorem encRdpK6_eq_iff {op : Nat} {d : Reg} {k : BitVec 6} :
    d.isUpperPair = true ∧ encRdpK6 (BitVec.ofNat 8 op) d k = w ↔
      w.toNat / 256 = op % 256 ∧ fieldDp w = d ∧ fieldK6 w = k := by
  simp only [← BitVec.toNat_inj, Fin.ext_iff, Reg.isUpperPair, Bool.and_eq_true, beq_iff_eq, decide_eq_true_iff,
    fieldDp_val, fieldK6_toNat, encRdpK6, append_toNat, extract_toNat, BitVec.toNat_ofNat]
  omega

theorem encRd_eq_iff {op lo : Nat} {d : Reg} :
    encRd (BitVec.ofNat 7 op) d (BitVec.ofNat 4 lo) = w ↔
      w.toNat / 512 = op % 128 ∧ w.toNat % 16 = lo % 16 ∧ fieldD5 w = d := by
  simp only [← BitVec.toNat_inj, Fin.ext_iff, fieldD5_val, encRd, append_toNat, BitVec.toNat_ofFin, BitVec.toNat_ofNat]
  omega

theorem encTwoNibbles_eq_iff {op : Nat} {d r : BitVec 4} :
    encTwoNibbles (BitVec.ofNat 8 op) d r = w ↔
      w.toNat / 256 = op % 256 ∧ w.extractLsb' 4 4 = d ∧ w.extractLsb' 0 4 = r := by
  simp only [← BitVec.toNat_inj, encTwoNibbles, append_toNat, extract_toNat, BitVec.toNat_ofNat]
  omega

theorem encRd3Rr3_eq_iff {o1 o0 : Nat} {d r : Reg} :
    (d.isMul && r.isMul) = true ∧ encRd3Rr3 (BitVec.ofNat 1 o1) (BitVec.ofNat 1 o0) d r = w ↔
      w.toNat / 256 = 3 ∧ w.toNat / 128 % 2 = o1 % 2 ∧ w.toNat / 8 % 2 = o0 % 2 ∧
        regMul (w.extractLsb' 4 3) = d ∧ regMul (w.extractLsb' 0 3) = r := by
  simp only [← BitVec.toNat_inj, Fin.ext_iff, Reg.isMul, Bool.and_eq_true, decide_eq_true_iff, regMul, encRd3Rr3,
    append_toNat, extract_toNat, BitVec.toNat_ofNat]
  omega

theorem encBranch_eq_iff {op : Nat} {f : BitVec 3} {k : BitVec 7} :
    encBranch (BitVec.ofNat 6 op) f k = w ↔ w.toNat / 1024 = op % 64 ∧ fieldB3 w = f ∧ fieldK7 w = k := by
  simp only [← BitVec.toNat_inj, fieldB3_toNat, fieldK7_toNat, encBranch, append_toNat, BitVec.toNat_ofNat]
  omega

theorem encRegBit_eq_iff {op : Nat} {r : Reg} {b : BitVec 3} :
    encRegBit (BitVec.ofNat 7 op) r b = w ↔
      w.toNat / 512 = op % 128 ∧ w.toNat / 8 % 2 = 0 ∧ fieldD5 w = r ∧ fieldB3 w = b := by
  simp only [← BitVec.toNat_inj, Fin.ext_iff, fieldD5_val, fieldB3_toNat, encRegBit, append_toNat, BitVec.toNat_ofFin,
    BitVec.toNat_ofNat]
  omega

theorem encIoBit_eq_iff {op : Nat} {a : BitVec 5} {b : BitVec 3} :
    encIoBit (BitVec.ofNat 8 op) a b = w ↔ w.toNat / 256 = op % 256 ∧ fieldA5 w = a ∧ fieldB3 w = b := by
  simp only [← BitVec.toNat_inj, fieldA5_toNat, fieldB3_toNat, encIoBit, append_toNat, BitVec.toNat_ofNat]
  omega

theorem encIo_eq_iff {op : Nat} {d : Reg} {a : BitVec 6} :
    encIo (BitVec.ofNat 5 op) d a = w ↔ w.toNat / 2048 = op % 32 ∧ fieldD5 w = d ∧ fieldA6 w = a := by
  simp only [← BitVec.toNat_inj, Fin.ext_iff, fieldD5_val, fieldA6_toNat, encIo, append_toNat, extract_toNat,
    BitVec.toNat_ofFin, BitVec.toNat_ofNat]
  omega

theorem encFar_eq_iff {op : Nat} {k : BitVec 22} :
    encFar (BitVec.ofNat 3 op) k = w ∧ k.extractLsb' 0 16 = w1 ↔
      w.toNat / 512 = 74 ∧ w.toNat / 2 % 8 = op % 8 ∧ fieldK22 w w1 = k := by
  simp only [← BitVec.toNat_inj, fieldK22_toNat, encFar, append_toNat, extract_toNat, BitVec.toNat_ofNat]
  omega

theorem encFlag_eq_iff {o : Nat} {f : BitVec 3} :
    encFlag (BitVec.ofNat 1 o) f = w ↔
      w.toNat / 256 = 148 ∧ w.toNat % 16 = 8 ∧ w.toNat / 128 % 2 = o % 2 ∧ w.extractLsb' 4 3 = f := by
  simp only [← BitVec.toNat_inj, encFlag, append_toNat, extract_toNat, BitVec.toNat_ofNat]
  omega

theorem encDes_eq_iff {k : BitVec 4} :
    0x94#8 ++ k ++ 0xB#4 = w ↔ w.toNat / 256 = 148 ∧ w.toNat % 16 = 11 ∧ w.extractLsb' 4 4 = k := by
  simp only [← BitVec.toNat_inj, append_toNat, extract_toNat, BitVec.toNat_ofNat]
  omega

theorem encK12_eq_iff {op : Nat} {k : BitVec 12} :
    BitVec.ofNat 4 op ++ k = w ↔ w.toNat / 4096 = op % 16 ∧ fieldK12 w = k := by
  simp only [← BitVec.toNat_inj, append_toNat, fieldK12_toNat, BitVec.toNat_ofNat]
  omega

/-! ### LDD and STD: the displacement is spread over the word -/

theorem encDisp_toNat (st y : BitVec 1) (d : Reg) (q : BitVec 6) : (encDisp st y d q).toNat =
    32768 + q.toNat / 32 * 8192 + q.toNat / 8 % 4 * 1024 + st.toNat * 512 + d.val * 16 + y.toNat * 8 + q.toNat % 8 := by
  simp only [encDisp, append_toNat, extract_toNat, BitVec.toNat_ofFin, BitVec.toNat_ofNat]
  omega

/-- A displacement by its three parts. -/
theorem digits_of_lt_64 {n : Nat} (h : n < 64) : ∃ a b c, a < 2 ∧ b < 4 ∧ c < 8 ∧ n = a * 32 + b * 8 + c ∧
    n / 32 = a ∧ n / 8 % 4 = b ∧ n % 8 = c :=
  ⟨n / 32, n / 8 % 4, n % 8, by omega, by omega, by omega, by omega, rfl, rfl, rfl⟩

theorem encDisp_eq_iff {st y : Nat} {d : Reg} {q : BitVec 6} :
    encDisp (BitVec.ofNat 1 st) (BitVec.ofNat 1 y) d q = w ↔
      w.toNat / 16384 = 2 ∧ w.toNat / 4096 % 2 = 0 ∧ w.toNat / 512 % 2 = st % 2 ∧ w.toNat / 8 % 2 = y % 2 ∧
        fieldD5 w = d ∧ fieldQ w = q := by
  simp only [← BitVec.toNat_inj, Fin.ext_iff, fieldD5_val, fieldQ_toNat, encDisp_toNat, BitVec.toNat_ofNat]
  obtain ⟨a, b, c, ha, hb, hc, hq, h32, h8, h1⟩ := digits_of_lt_64 q.isLt
  rw [h32, h8, h1, hq]
  clear hq h32 h8 h1
  constructor
  · intro h
    rw [← h]
    refine ⟨?_, ?_, ?_, ?_, ?_, ?_⟩ <;> omega
  · omega

/-! ### The one-word LDS and STS of AVRrc (42_data_transfer R266, R279) -/

/-- The bits 5, 4 and 6 of a data address, in the order in which the one-word LDS and STS hold them (R266). -/
def rcHigh (a : BitVec 8) : BitVec 3 := a.extractLsb' 5 1 ++ a.extractLsb' 4 1 ++ a.extractLsb' 6 1

/-- The data address of which they are the bits 5, 4 and 6, and `lo` the four low bits. -/
def rcAddr (hi : BitVec 3) (lo : BitVec 4) : BitVec 8 :=
  ~~~(hi.extractLsb' 0 1) ++ hi.extractLsb' 0 1 ++ hi.extractLsb' 2 1 ++ hi.extractLsb' 1 1 ++ lo

theorem rcAddrOk_rcAddr : ∀ (hi : BitVec 3) (lo : BitVec 4),
    rcAddrOk (rcAddr hi lo) = true ∧ rcHigh (rcAddr hi lo) = hi ∧ (rcAddr hi lo).extractLsb' 0 4 = lo := by decide

theorem rcAddr_rcHigh : ∀ a : BitVec 8, rcAddrOk a = true → rcAddr (rcHigh a) (a.extractLsb' 0 4) = a := by decide

theorem fieldRcAddr_eq (w : Word) : fieldRcAddr w = rcAddr (w.extractLsb' 8 3) (w.extractLsb' 0 4) := by
  have bit (j : Nat) (h : j < 3) : (w.extractLsb' 8 3).extractLsb' j 1 = w.extractLsb' (8 + j) 1 := by
    ext k hk
    simp [show j + k < 3 by omega, Nat.add_assoc]
  rw [rcAddr, bit 0 (by decide), bit 1 (by decide), bit 2 (by decide), fieldRcAddr]

theorem rcAddr_eq_iff {a : BitVec 8} {hi : BitVec 3} {lo : BitVec 4} :
    rcAddr hi lo = a ↔ rcAddrOk a = true ∧ hi = rcHigh a ∧ lo = a.extractLsb' 0 4 := by
  constructor
  · rintro rfl
    obtain ⟨hok, hhi, hlo⟩ := rcAddrOk_rcAddr hi lo
    exact ⟨hok, hhi.symm, hlo.symm⟩
  · rintro ⟨hok, rfl, rfl⟩
    exact rcAddr_rcHigh a hok

theorem encRc_toNat (o : BitVec 1) (d : Reg) (a : BitVec 8) : (encRc o d a).toNat =
    40960 + o.toNat * 2048 + (rcHigh a).toNat * 256 + d.val % 16 * 16 + (a.extractLsb' 0 4).toNat := by
  simp only [encRc, rcHigh, append_toNat, extract_toNat, BitVec.toNat_ofNat]
  omega

theorem encRc_eq_iff {o : Nat} {d : Reg} {a : BitVec 8} :
    (d.isUpper && rcAddrOk a) = true ∧ encRc (BitVec.ofNat 1 o) d a = w ↔
      w.toNat / 4096 = 10 ∧ w.toNat / 2048 % 2 = o % 2 ∧ fieldD4 w = d ∧ fieldRcAddr w = a := by
  rw [fieldRcAddr_eq, rcAddr_eq_iff]
  simp only [← BitVec.toNat_inj, Fin.ext_iff, fieldD4_val, encRc_toNat, Bool.and_eq_true, Reg.isUpper,
    decide_eq_true_iff, extract_toNat w, BitVec.toNat_ofNat]
  have := (rcHigh a).isLt
  have := (a.extractLsb' 0 4).isLt
  generalize (rcHigh a).toNat = hi at *
  generalize (a.extractLsb' 0 4).toNat = lo at *
  constructor
  · rintro ⟨⟨hd, hok⟩, h⟩
    rw [← h]
    refine ⟨?_, ?_, ?_, hok, ?_, ?_⟩ <;> omega
  · rintro ⟨h10, ho, hd, hok, hhi, hlo⟩
    refine ⟨⟨?_, hok⟩, ?_⟩ <;> omega

end Sys2Proof
end

section
/-! What is decoded encodes back to the words it was read from (30_encoding R101, R104, R107, R109 to R111, R115). -/

namespace Sys2Proof

variable {w w1 : Word} {i : Instr}

/-! ### The length of an instruction (R101) -/

theorem maskLds_eq (w : Word) : w &&& 0xFE0F#16 = w.extractLsb' 9 7 ++ 0#5 ++ w.extractLsb' 0 4 := by
  refine BitVec.eq_of_getLsbD_eq fun j hj => ?_
  simp only [BitVec.getLsbD_and, BitVec.getLsbD_append]
  interval_cases j <;> simp

theorem maskJmp_eq (w : Word) : w &&& 0xFE0C#16 = w.extractLsb' 9 7 ++ 0#5 ++ w.extractLsb' 2 2 ++ 0#2 := by
  refine BitVec.eq_of_getLsbD_eq fun j hj => ?_
  simp only [BitVec.getLsbD_and, BitVec.getLsbD_append]
  interval_cases j <;> simp

/-- The first words of LDS and STS, and of JMP and CALL (R101). -/
def IsLong (w : Word) : Prop :=
  (w.toNat / 512 = 72 ∨ w.toNat / 512 = 73) ∧ w.toNat % 16 = 0 ∨ w.toNat / 512 = 74 ∧ w.toNat / 4 % 4 = 3

theorem instrLen_eq_two_iff {core : Core} (h : core ≠ .avrrc) : instrLen core w = 2 ↔ IsLong w := by
  have hlds : w &&& 0xFE0F#16 = 0x9000#16 ↔ w.toNat / 512 = 72 ∧ w.toNat % 16 = 0 := by
    simp only [maskLds_eq, ← BitVec.toNat_inj, append_toNat, extract_toNat, BitVec.toNat_ofNat]
    omega
  have hsts : w &&& 0xFE0F#16 = 0x9200#16 ↔ w.toNat / 512 = 73 ∧ w.toNat % 16 = 0 := by
    simp only [maskLds_eq, ← BitVec.toNat_inj, append_toNat, extract_toNat, BitVec.toNat_ofNat]
    omega
  have hjmp : w &&& 0xFE0C#16 = 0x940C#16 ↔ w.toNat / 512 = 74 ∧ w.toNat / 4 % 4 = 3 := by
    simp only [maskJmp_eq, ← BitVec.toNat_inj, append_toNat, extract_toNat, BitVec.toNat_ofNat]
    omega
  simp only [instrLen, h, hlds, hsts, hjmp, if_false, IsLong]
  split_ifs <;> omega

/-! ### The words of each part of the opcode map (R109 to R111) -/

/-- A canonical, well-formed instruction whose first word is `w`, and whose second is `w1` if `w` is long. -/
structure Encodes (i : Instr) (w w1 : Word) : Prop where
  canonical : i.canonical = i
  first : i.wellFormed = true ∧ encodeFirst i = w
  words : IsLong w ∧ encode i = [encodeFirst i, w1] ∨ ¬IsLong w ∧ encode i = [encodeFirst i]

/-- A first word that is not long is the whole instruction. -/
theorem oneWord (he : encode i = [encodeFirst i])
    (h : ¬((w.toNat / 512 = 72 ∨ w.toNat / 512 = 73) ∧ w.toNat % 16 = 0 ∨ w.toNat / 512 = 74 ∧ w.toNat / 4 % 4 = 3)) :
    IsLong w ∧ encode i = [encodeFirst i, w1] ∨ ¬IsLong w ∧ encode i = [encodeFirst i] := .inr ⟨h, he⟩

theorem ofNat_eq_of_toNat {n : Nat} (h : w.toNat = n % 65536) : BitVec.ofNat 16 n = w :=
  BitVec.eq_of_toNat_eq (by rw [BitVec.toNat_ofNat, h])

theorem regUpper_isUpper (n : BitVec 4) : (regUpper n).isUpper = true := by
  simp [Reg.isUpper, regUpper]

theorem regPair_isPair (n : BitVec 4) : (regPair n).isPair = true := by
  simp [Reg.isPair, regPair]

theorem regUpper_field (n : BitVec 4) : BitVec.ofNat 4 (regUpper n).val = n := by
  simp [← BitVec.toNat_inj, regUpper, Nat.mod_eq_of_lt n.isLt]

theorem regPair_field (n : BitVec 4) : BitVec.ofNat 4 ((regPair n).val / 2) = n := by
  simp [regPair]

theorem decode0_encodes (h12 : w.toNat / 4096 = 0) (h : decode0 w = .ok i) : Encodes i w w1 := by
  simp only [decode0, extract_toNat] at h
  split at h
  · split at h <;> cases h
    subst w
    exact ⟨rfl, ⟨rfl, rfl⟩, oneWord rfl (by decide)⟩
  · cases h
    refine ⟨rfl, ⟨?_, ?_⟩, oneWord rfl (by omega)⟩
    · simp [Instr.wellFormed, regPair_isPair]
    · simp only [encodeFirst, regPair_field]
      exact encTwoNibbles_eq_iff.2 ⟨by omega, rfl, rfl⟩
  · cases h
    refine ⟨rfl, ⟨?_, ?_⟩, oneWord rfl (by omega)⟩
    · simp [Instr.wellFormed, regUpper_isUpper]
    · simp only [encodeFirst, regUpper_field]
      exact encTwoNibbles_eq_iff.2 ⟨by omega, rfl, rfl⟩
  · have h8 : w.toNat / 256 = 3 := by omega
    split at h <;> rename_i h7 h3 <;> cases h <;>
      simp only [getLsbD_iff, getLsbD_false_iff, Nat.reducePow] at h7 h3
    all_goals exact ⟨rfl, encRd3Rr3_eq_iff.2 ⟨h8, h7, h3, rfl, rfl⟩, oneWord rfl (by omega)⟩
  · rename_i h0 h1 h2 h3
    simp only [imp_false] at h0 h1 h2 h3
    split_ifs at h <;> cases h <;> exact ⟨rfl, ⟨rfl, encRdRr_eq_iff.2 ⟨by omega, rfl, rfl⟩⟩, oneWord rfl (by omega)⟩

theorem decode1_encodes (h12 : w.toNat / 4096 = 1) (h : decode1 w = .ok i) : Encodes i w w1 := by
  simp only [decode1, extract_toNat] at h
  split at h <;> rename_i h10 <;> cases h
  case h_4 h0 h1 =>
    simp only [imp_false] at h0 h1 h10
    exact ⟨rfl, ⟨rfl, encRdRr_eq_iff.2 ⟨by omega, rfl, rfl⟩⟩, oneWord rfl (by omega)⟩
  all_goals exact ⟨rfl, ⟨rfl, encRdRr_eq_iff.2 ⟨by omega, rfl, rfl⟩⟩, oneWord rfl (by omega)⟩

theorem decode2_encodes (h12 : w.toNat / 4096 = 2) (h : decode2 w = .ok i) : Encodes i w w1 := by
  simp only [decode2, extract_toNat] at h
  split at h <;> rename_i h10 <;> cases h
  case h_4 h0 h1 =>
    simp only [imp_false] at h0 h1 h10
    exact ⟨rfl, ⟨rfl, encRdRr_eq_iff.2 ⟨by omega, rfl, rfl⟩⟩, oneWord rfl (by omega)⟩
  all_goals exact ⟨rfl, ⟨rfl, encRdRr_eq_iff.2 ⟨by omega, rfl, rfl⟩⟩, oneWord rfl (by omega)⟩

theorem decodeDisp_encodes (h14 : w.toNat / 16384 = 2) (h12 : w.toNat / 4096 % 2 = 0) (h : decodeDisp w = .ok i) :
    Encodes i w w1 := by
  simp only [decodeDisp] at h
  by_cases hq : fieldQ w = 0#6
  · simp only [hq, if_true] at h
    rw [fieldQ_eq_zero_iff] at hq
    split at h <;> rename_i h9 h3 <;> simp only [getLsbD_iff, getLsbD_false_iff, Nat.reducePow] at h9 h3 <;> cases h
    all_goals exact ⟨rfl, ⟨rfl, encRd_eq_iff.2 ⟨by omega, by omega, rfl⟩⟩, oneWord rfl (by omega)⟩
  · simp only [hq, if_false] at h
    split at h <;> rename_i h9 h3 <;> simp only [getLsbD_iff, getLsbD_false_iff, Nat.reducePow] at h9 h3 <;> cases h
    all_goals exact ⟨rfl, ⟨bne_iff_ne.2 hq, encDisp_eq_iff.2 ⟨h14, h12, h9, h3, rfl, rfl⟩⟩, oneWord rfl (by omega)⟩

theorem decodeLoad_encodes (h9 : w.toNat / 512 = 72) (h : decodeLoad w w1 = .ok i) : Encodes i w w1 := by
  simp only [decodeLoad, extract_toNat] at h
  split at h <;> cases h
  case h_1 => exact ⟨rfl, ⟨rfl, encRd_eq_iff.2 ⟨h9, by omega, rfl⟩⟩, .inl ⟨.inl (by omega), rfl⟩⟩
  all_goals exact ⟨rfl, ⟨rfl, encRd_eq_iff.2 ⟨h9, by omega, rfl⟩⟩, oneWord rfl (by omega)⟩

theorem decodeStore_encodes (h9 : w.toNat / 512 = 73) (h : decodeStore w w1 = .ok i) : Encodes i w w1 := by
  simp only [decodeStore, extract_toNat] at h
  split at h <;> cases h
  case h_1 => exact ⟨rfl, ⟨rfl, encRd_eq_iff.2 ⟨h9, by omega, rfl⟩⟩, .inl ⟨.inl (by omega), rfl⟩⟩
  all_goals exact ⟨rfl, ⟨rfl, encRd_eq_iff.2 ⟨h9, by omega, rfl⟩⟩, oneWord rfl (by omega)⟩

theorem decodeFlagOrNone_encodes (h9 : w.toNat / 512 = 74) (h0 : w.toNat % 16 = 8) (h : decodeFlagOrNone w = .ok i) :
    Encodes i w w1 := by
  simp only [decodeFlagOrNone, extract_toNat, getLsbD_iff] at h
  split_ifs at h with h8 h7
  · split at h <;> cases h <;> exact ⟨rfl, ⟨rfl, ofNat_eq_of_toNat (by omega)⟩, oneWord rfl (by omega)⟩
  all_goals
    cases h
    exact ⟨rfl, ⟨rfl, encFlag_eq_iff.2 ⟨by omega, h0, by omega, rfl⟩⟩, oneWord rfl (by omega)⟩

theorem decodeIndirect_encodes (h9 : w.toNat / 512 = 74) (h0 : w.toNat % 16 = 9) (h : decodeIndirect w = .ok i) :
    Encodes i w w1 := by
  simp only [decodeIndirect, extract_toNat] at h
  split at h <;> cases h <;> exact ⟨rfl, ⟨rfl, ofNat_eq_of_toNat (by omega)⟩, oneWord rfl (by omega)⟩

theorem decodeMisc_encodes (h9 : w.toNat / 512 = 74) (h : decodeMisc w w1 = .ok i) : Encodes i w w1 := by
  simp only [decodeMisc, extract_toNat, getLsbD_iff] at h
  split at h
  case h_9 => exact decodeFlagOrNone_encodes h9 (by omega) h
  case h_10 => exact decodeIndirect_encodes h9 (by omega) h
  case h_12 =>
    split_ifs at h with h8
    cases h
    exact ⟨rfl, ⟨rfl, encDes_eq_iff.2 ⟨by omega, by omega, rfl⟩⟩, oneWord rfl (by omega)⟩
  all_goals cases h
  case h_13 | h_14 =>
    obtain ⟨hfirst, hsecond⟩ := (encFar_eq_iff (op := 6)).2 ⟨h9, by omega, rfl⟩
    exact ⟨rfl, ⟨rfl, hfirst⟩, .inl ⟨.inr (by omega), by rw [encode, hsecond]⟩⟩
  case h_15 =>
    simp only [imp_false] at *
    obtain ⟨hfirst, hsecond⟩ := (encFar_eq_iff (op := 7)).2 ⟨h9, by omega, rfl⟩
    exact ⟨rfl, ⟨rfl, hfirst⟩, .inl ⟨.inr (by omega), by rw [encode, hsecond]⟩⟩
  all_goals exact ⟨rfl, ⟨rfl, encRd_eq_iff.2 ⟨h9, by omega, rfl⟩⟩, oneWord rfl (by omega)⟩

theorem decodeWord_of_9 (h : w.toNat / 4096 = 9) : decodeWord w w1 = decode9 w w1 := by
  simp [decodeWord, Nat.shiftRight_eq_div_pow, h]

theorem decode9_encodes (h12 : w.toNat / 4096 = 9) (h : decode9 w w1 = .ok i) : Encodes i w w1 := by
  simp only [decode9, extract_toNat] at h
  split at h
  case h_1 | h_2 => exact decodeLoad_encodes (by omega) h
  case h_3 | h_4 => exact decodeStore_encodes (by omega) h
  case h_5 | h_6 => exact decodeMisc_encodes (by omega) h
  all_goals cases h
  case h_7 | h_8 => exact ⟨rfl, encRdpK6_eq_iff.2 ⟨by omega, rfl, rfl⟩, oneWord rfl (by omega)⟩
  case h_13 =>
    simp only [imp_false] at *
    exact ⟨rfl, ⟨rfl, encRdRr_eq_iff.2 ⟨by omega, rfl, rfl⟩⟩, oneWord rfl (by omega)⟩
  all_goals exact ⟨rfl, ⟨rfl, encIoBit_eq_iff.2 ⟨by omega, rfl, rfl⟩⟩, oneWord rfl (by omega)⟩

theorem decode15_encodes (h12 : w.toNat / 4096 = 15) (h : decode15 w = .ok i) : Encodes i w w1 := by
  simp only [decode15, extract_toNat, getLsbD_iff] at h
  split_ifs at h with h11 h3 h10
  · split at h <;> rename_i h9 <;> cases h
    case h_4 h0 h1 =>
      simp only [imp_false] at h0 h1 h9
      exact ⟨rfl, ⟨rfl, encRegBit_eq_iff.2 ⟨by omega, by omega, rfl, rfl⟩⟩, oneWord rfl (by omega)⟩
    all_goals exact ⟨rfl, ⟨rfl, encRegBit_eq_iff.2 ⟨by omega, by omega, rfl, rfl⟩⟩, oneWord rfl (by omega)⟩
  all_goals
    cases h
    exact ⟨rfl, ⟨rfl, encBranch_eq_iff.2 ⟨by omega, rfl, rfl⟩⟩, oneWord rfl (by omega)⟩

/-- Every word that is read is the first word of what it is read as. -/
theorem decodeWord_encodes (h : decodeWord w w1 = .ok i) : Encodes i w w1 := by
  simp only [decodeWord, extract_toNat, getLsbD_iff] at h
  have := w.isLt
  split at h
  case h_1 => exact decode0_encodes (by omega) h
  case h_2 => exact decode1_encodes (by omega) h
  case h_3 => exact decode2_encodes (by omega) h
  case h_9 | h_11 => exact decodeDisp_encodes (by omega) (by omega) h
  case h_10 => exact decode9_encodes (by omega) h
  case h_12 =>
    split_ifs at h <;> cases h <;> exact ⟨rfl, ⟨rfl, encIo_eq_iff.2 ⟨by omega, rfl, rfl⟩⟩, oneWord rfl (by omega)⟩
  case h_16 =>
    simp only [imp_false] at *
    exact decode15_encodes (by omega) h
  all_goals cases h
  case h_13 | h_14 => exact ⟨rfl, ⟨rfl, encK12_eq_iff.2 ⟨by omega, rfl⟩⟩, oneWord rfl (by omega)⟩
  all_goals exact ⟨rfl, encRdK8_eq_iff.2 ⟨by omega, rfl, rfl⟩, oneWord rfl (by omega)⟩

end Sys2Proof
end

section
/-! The reserved words (30_encoding R120): which words each part of the opcode map (R109 to R111) rejects. -/

namespace Sys2Proof

variable {w w1 : Word} {n : Nat}

/-! ### Words `0000 …` to `0010 …`, `10q0 …` and `1111 …` -/

theorem decode0_reserved_iff : decode0 w = .error (.reservedWord w) ↔ w.toNat / 256 % 16 = 0 ∧ w.toNat ≠ 0 := by
  have hw : w = 0#16 ↔ w.toNat = 0 := BitVec.toNat_inj.symm
  simp only [decode0, extract_toNat, hw]
  split
  case h_1 =>
    split
    · exact iff_of_false nofun (by omega)
    · exact iff_of_true rfl (by omega)
  case h_4 => split <;> exact iff_of_false nofun (by omega)
  case h_5 =>
    simp only [imp_false] at *
    split_ifs <;> exact iff_of_false nofun (by omega)
  all_goals exact iff_of_false nofun (by omega)

theorem decode1_ne_reserved (w : Word) : decode1 w ≠ .error (.reservedWord w) := by
  unfold decode1
  split <;> nofun

theorem decode2_ne_reserved (w : Word) : decode2 w ≠ .error (.reservedWord w) := by
  unfold decode2
  split <;> nofun

theorem decodeDisp_ne_reserved (w : Word) : decodeDisp w ≠ .error (.reservedWord w) := by
  unfold decodeDisp
  split <;> nofun

theorem decode15_reserved_iff :
    decode15 w = .error (.reservedWord w) ↔ w.toNat / 2048 % 2 = 1 ∧ w.toNat / 8 % 2 = 1 := by
  simp only [decode15, extract_toNat, getLsbD_iff]
  split_ifs
  · exact iff_of_true rfl (by omega)
  · split <;> exact iff_of_false nofun (by omega)
  · exact iff_of_false nofun (by omega)
  · exact iff_of_false nofun (by omega)

/-! ### Words `1001 …` -/

theorem decodeLoad_reserved_iff : decodeLoad w w1 = .error (.reservedWord w) ↔ w.toNat % 16 ∈ [3, 8, 11] := by
  simp only [decodeLoad, extract_toNat, List.mem_cons, List.not_mem_nil, or_false]
  split
  case h_14 =>
    simp only [imp_false] at *
    exact iff_of_true trivial (by omega)
  all_goals exact iff_of_false nofun (by omega)

theorem decodeStore_reserved_iff : decodeStore w w1 = .error (.reservedWord w) ↔ w.toNat % 16 ∈ [3, 8, 11] := by
  simp only [decodeStore, extract_toNat, List.mem_cons, List.not_mem_nil, or_false]
  split
  case h_14 =>
    simp only [imp_false] at *
    exact iff_of_true trivial (by omega)
  all_goals exact iff_of_false nofun (by omega)

theorem decodeFlagOrNone_reserved_iff : decodeFlagOrNone w = .error (.reservedWord w) ↔
    w.toNat / 256 % 2 = 1 ∧ w.toNat / 16 % 16 ∈ [2, 3, 4, 5, 6, 7, 11] := by
  simp only [decodeFlagOrNone, extract_toNat, getLsbD_iff, List.mem_cons, List.not_mem_nil, or_false]
  split_ifs
  · split
    case h_10 =>
      simp only [imp_false] at *
      exact iff_of_true trivial (by omega)
    all_goals exact iff_of_false nofun (by omega)
  · exact iff_of_false nofun (by omega)
  · exact iff_of_false nofun (by omega)

theorem decodeIndirect_reserved_iff :
    decodeIndirect w = .error (.reservedWord w) ↔ w.toNat / 16 % 16 ∉ [0, 1] := by
  simp only [decodeIndirect, extract_toNat, List.mem_cons, List.not_mem_nil, or_false]
  split
  case h_5 =>
    simp only [imp_false] at *
    exact iff_of_true trivial (by omega)
  all_goals exact iff_of_false nofun (by omega)

/-- The groups of R120 among the words `1001 010x …`. -/
def ReservedMisc (n : Nat) : Prop :=
  n % 16 = 4 ∨ (n % 16 = 9 ∧ n / 16 % 16 ∉ [0, 1]) ∨
    (n / 256 % 2 = 1 ∧ n % 16 = 8 ∧ n / 16 % 16 ∈ [2, 3, 4, 5, 6, 7, 11]) ∨ (n / 256 % 2 = 1 ∧ n % 16 = 11)

theorem decodeMisc_reserved_iff : decodeMisc w w1 = .error (.reservedWord w) ↔ ReservedMisc w.toNat := by
  simp only [decodeMisc, extract_toNat, getLsbD_iff, ReservedMisc]
  split
  case h_5 => exact iff_of_true rfl (by omega)
  case h_9 =>
    rw [decodeFlagOrNone_reserved_iff]
    simp only [List.mem_cons, List.not_mem_nil, or_false]
    omega
  case h_10 =>
    rw [decodeIndirect_reserved_iff]
    simp only [List.mem_cons, List.not_mem_nil, or_false]
    omega
  case h_12 =>
    split_ifs
    · exact iff_of_true rfl (by omega)
    · exact iff_of_false nofun (by omega)
  case h_15 =>
    simp only [imp_false] at *
    exact iff_of_false nofun (by omega)
  all_goals exact iff_of_false nofun (by omega)

theorem decode9_reserved_iff : decode9 w w1 = .error (.reservedWord w) ↔
    (w.toNat / 512 % 8 ∈ [0, 1] ∧ w.toNat % 16 ∈ [3, 8, 11]) ∨ (w.toNat / 512 % 8 = 2 ∧ ReservedMisc w.toNat) := by
  simp only [decode9, extract_toNat]
  split
  case h_1 | h_2 =>
    have h9 : w.toNat / 512 % 8 = 0 := by omega
    simp [decodeLoad_reserved_iff, h9]
  case h_3 | h_4 =>
    have h9 : w.toNat / 512 % 8 = 1 := by omega
    simp [decodeStore_reserved_iff, h9]
  case h_5 | h_6 =>
    have h9 : w.toNat / 512 % 8 = 2 := by omega
    simp [decodeMisc_reserved_iff, h9]
  case h_13 =>
    simp only [imp_false, List.mem_cons, List.not_mem_nil, or_false] at *
    exact iff_of_false nofun (by omega)
  all_goals
    simp only [List.mem_cons, List.not_mem_nil, or_false]
    exact iff_of_false nofun (by omega)

/-! ### The opcode map -/

/-- The groups of R120. -/
def ReservedGroups (n : Nat) : Prop :=
  (n / 256 = 0x00 ∧ n ≠ 0) ∨
  (n / 512 ∈ [0x48, 0x49] ∧ n % 16 ∈ [3, 8, 11]) ∨
  (n / 512 = 0x4A ∧ n % 16 = 4) ∨
  (n / 256 ∈ [0x94, 0x95] ∧ n % 16 = 9 ∧ n / 16 % 16 ∉ [0, 1]) ∨
  (n / 256 = 0x95 ∧ n % 16 = 8 ∧ n / 16 % 16 ∈ [2, 3, 4, 5, 6, 7, 11]) ∨
  (n / 256 = 0x95 ∧ n % 16 = 11) ∨
  (n / 2048 = 0x1F ∧ n / 8 % 2 = 1)

/-- Of the words `1001 …` five groups are reserved. -/
theorem reservedGroups_of_9 (h : n / 4096 = 9) : ReservedGroups n ↔
    (n / 512 % 8 ∈ [0, 1] ∧ n % 16 ∈ [3, 8, 11]) ∨ (n / 512 % 8 = 2 ∧ ReservedMisc n) := by
  have h0 : ¬n / 256 = 0x00 := by omega
  have hload : n / 512 ∈ [0x48, 0x49] ↔ n / 512 % 8 ∈ [0, 1] := by
    simp only [List.mem_cons, List.not_mem_nil, or_false]
    omega
  have hmisc : n / 512 = 0x4A ↔ n / 512 % 8 = 2 := by omega
  have hindirect : n / 256 ∈ [0x94, 0x95] ↔ n / 512 % 8 = 2 := by
    simp only [List.mem_cons, List.not_mem_nil, or_false]
    omega
  have hnone : n / 256 = 0x95 ↔ n / 512 % 8 = 2 ∧ n / 256 % 2 = 1 := by omega
  have h15 : ¬n / 2048 = 0x1F := by omega
  simp only [ReservedGroups, ReservedMisc, h0, h15, hload, hmisc, hindirect, hnone, false_and, false_or, or_false,
    and_assoc, ← and_or_left]

/-- Of all the others two are: at NOP, and at BLD, BST, SBRC and SBRS. -/
theorem reservedGroups_of_ne_9 (h : n / 4096 ≠ 9) :
    ReservedGroups n ↔ n / 256 = 0 ∧ n ≠ 0 ∨ n / 2048 = 0x1F ∧ n / 8 % 2 = 1 := by
  have hload : ¬n / 512 ∈ [0x48, 0x49] := by
    simp only [List.mem_cons, List.not_mem_nil, or_false]
    omega
  have hmisc : ¬n / 512 = 0x4A := by omega
  have hindirect : ¬n / 256 ∈ [0x94, 0x95] := by
    simp only [List.mem_cons, List.not_mem_nil, or_false]
    omega
  have hnone : ¬n / 256 = 0x95 := by omega
  simp only [ReservedGroups, hload, hmisc, hindirect, hnone, false_and, false_or]

theorem decodeWord_reserved_iff : decodeWord w w1 = .error (.reservedWord w) ↔ ReservedGroups w.toNat := by
  have := w.isLt
  by_cases h9 : w.toNat / 4096 = 9
  · rw [decodeWord_of_9 h9, decode9_reserved_iff, reservedGroups_of_9 h9]
  · rw [reservedGroups_of_ne_9 h9]
    simp only [decodeWord, extract_toNat, getLsbD_iff]
    split
    case h_1 => rw [decode0_reserved_iff]; omega
    case h_2 => exact iff_of_false (decode1_ne_reserved w) (by omega)
    case h_3 => exact iff_of_false (decode2_ne_reserved w) (by omega)
    case h_9 | h_11 => exact iff_of_false (decodeDisp_ne_reserved w) (by omega)
    case h_10 => omega
    case h_12 => split_ifs <;> exact iff_of_false nofun (by omega)
    case h_16 =>
      simp only [imp_false] at *
      rw [decode15_reserved_iff]
      omega
    all_goals exact iff_of_false nofun (by omega)

/-- Settles O3: of the words `1001 …` (decode9_reserved_iff), and of the others. -/
theorem reservedWords : Obligations.ReservedWords := by
  intro core w w1 h
  rw [decode, if_neg h]
  exact decodeWord_reserved_iff

end Sys2Proof
end

section
/-! What is encoded decodes to its canonical instruction (30_encoding R103 to R111, R115, R125), on every core that has
it. -/

namespace Sys2Proof

variable {w w1 : Word} {i : Instr}

/-! ### What is encoded decodes (R109 to R111) -/

theorem field_regUpper {d : Reg} (h : d.isUpper = true) : regUpper (BitVec.ofNat 4 d.val) = d := by
  revert d; decide

theorem field_regPair {d : Reg} (h : d.isPair = true) : regPair (BitVec.ofNat 4 (d.val / 2)) = d := by
  revert d; decide

theorem getLsbD_of_digit (k : Nat) {b : Nat} (h : w.toNat / 2 ^ k % 2 = b % 2) : w.getLsbD k = decide (b % 2 = 1) := by
  rw [Bool.eq_iff_iff, getLsbD_iff, h, decide_eq_true_iff]

theorem decodeWord_of_0 (h : w.toNat / 4096 = 0) : decodeWord w w1 = decode0 w := by
  simp [decodeWord, Nat.shiftRight_eq_div_pow, h]

theorem decodeWord_of_disp (h : w.toNat / 16384 = 2) (h' : w.toNat / 4096 % 2 = 0) :
    decodeWord w w1 = decodeDisp w := by
  obtain h | h : w.toNat / 4096 = 8 ∨ w.toNat / 4096 = 10 := by omega
  all_goals simp [decodeWord, Nat.shiftRight_eq_div_pow, h]

theorem decodeWord_of_15 (h : w.toNat / 4096 = 15) : decodeWord w w1 = decode15 w := by
  simp [decodeWord, Nat.shiftRight_eq_div_pow, h]

theorem decodeWord_of_load (h : w.toNat / 512 = 72) : decodeWord w w1 = decodeLoad w w1 := by
  rw [decodeWord_of_9 (by omega), decode9_eq_decodeLoad]
  rw [extract_toNat]; omega

theorem decodeWord_of_store (h : w.toNat / 512 = 73) : decodeWord w w1 = decodeStore w w1 := by
  rw [decodeWord_of_9 (by omega), decode9_eq_decodeStore] <;> rw [extract_toNat] <;> omega

theorem decodeWord_of_misc (h : w.toNat / 512 = 74) : decodeWord w w1 = decodeMisc w w1 := by
  rw [decodeWord_of_9 (by omega), decode9_eq_decodeMisc] <;> rw [extract_toNat] <;> omega

theorem decode9_of_ge_12 (h : 12 ≤ w.toNat / 256 % 16) : decode9 w w1 = .ok (.mul (fieldD5 w) (fieldR5 w)) := by
  simp only [decode9, extract_toNat]
  split
  case h_13 => rfl
  all_goals omega

theorem decode0_of_ge_4 (h : 4 ≤ w.toNat / 256 % 16) : decode0 w =
    if w.toNat / 256 % 16 < 8 then .ok (.cpc (fieldD5 w) (fieldR5 w))
    else if w.toNat / 256 % 16 < 12 then .ok (.sbc (fieldD5 w) (fieldR5 w))
    else .ok (.add (fieldD5 w) (fieldR5 w)) := by
  simp only [decode0, extract_toNat]
  split
  case h_5 => rfl
  all_goals omega

theorem digits_of_div_1024 {m n : Nat} (h : m / 1024 = n) : m / 4096 = n / 4 ∧ m / 1024 % 4 = n % 4 := by omega

theorem digits_of_div_512 {m n : Nat} (h : m / 512 = n) :
    m / 4096 = n / 8 ∧ m / 2048 % 2 = n / 4 % 2 ∧ m / 512 % 4 = n % 4 := by
  omega

theorem digits_of_div_256 {m n : Nat} (h : m / 256 = n) : m / 4096 = n / 16 ∧ m / 256 % 16 = n % 16 := by omega

theorem digit_of_mod_16 {m n : Nat} (h : m % 16 = n) : m / 8 % 2 = n / 8 % 2 := by omega

/-- What encodes a canonical instruction of the cores other than AVRrc is read as that instruction (R109 to R111). -/
theorem decodeWord_encodeFirst (hc : i.canonical = i) (hwf : i.wellFormed = true) (hhas : Core.avrxm.has i = true)
    (hw : encodeFirst i = w) (hw1 : ∀ x ∈ (encode i)[1]?, x = w1) : decodeWord w w1 = .ok i := by
  cases i
  case cpc =>
    obtain ⟨hop, rfl, rfl⟩ := encRdRr_eq_iff.1 hw
    rw [decodeWord_of_0 (by omega), decode0_of_ge_4 (by omega), if_pos (by omega)]
  case sbc =>
    obtain ⟨hop, rfl, rfl⟩ := encRdRr_eq_iff.1 hw
    rw [decodeWord_of_0 (by omega), decode0_of_ge_4 (by omega), if_neg (by omega), if_pos (by omega)]
  case add =>
    obtain ⟨hop, rfl, rfl⟩ := encRdRr_eq_iff.1 hw
    rw [decodeWord_of_0 (by omega), decode0_of_ge_4 (by omega), if_neg (by omega), if_neg (by omega)]
  case adc | cpse | cp | sub | and | eor | or | mov =>
    obtain ⟨hop, rfl, rfl⟩ := encRdRr_eq_iff.1 hw
    obtain ⟨h12, h10⟩ := digits_of_div_1024 hop
    simp [decodeWord, decode1, decode2, Nat.shiftRight_eq_div_pow, h12, h10]
  case mul =>
    obtain ⟨hop, rfl, rfl⟩ := encRdRr_eq_iff.1 hw
    rw [decodeWord_of_9 (by omega), decode9_of_ge_12 (by omega)]
  case cpi | sbci | subi | ori | andi | ldi =>
    obtain ⟨hop, rfl, rfl⟩ := encRdK8_eq_iff.1 ⟨hwf, hw⟩
    simp [decodeWord, Nat.shiftRight_eq_div_pow, hop]
  case adiw | sbiw =>
    obtain ⟨hop, rfl, rfl⟩ := encRdpK6_eq_iff.1 ⟨hwf, hw⟩
    obtain ⟨h12, h8⟩ := digits_of_div_256 hop
    simp [decodeWord, decode9, Nat.shiftRight_eq_div_pow, h12, h8]
  case muls d r =>
    obtain ⟨hd, hr⟩ := Bool.and_eq_true_iff.1 hwf
    obtain ⟨hop, h4, h0⟩ := encTwoNibbles_eq_iff.1 hw
    obtain ⟨h12, h8⟩ := digits_of_div_256 hop
    simp [decodeWord, decode0, Nat.shiftRight_eq_div_pow, h12, h8, h4, h0, field_regUpper hd, field_regUpper hr]
  case movw d r =>
    obtain ⟨hd, hr⟩ := Bool.and_eq_true_iff.1 hwf
    obtain ⟨hop, h4, h0⟩ := encTwoNibbles_eq_iff.1 hw
    obtain ⟨h12, h8⟩ := digits_of_div_256 hop
    simp [decodeWord, decode0, Nat.shiftRight_eq_div_pow, h12, h8, h4, h0, field_regPair hd, field_regPair hr]
  case mulsu | fmul | fmuls | fmulsu =>
    obtain ⟨hop, h7, h3, rfl, rfl⟩ := encRd3Rr3_eq_iff.1 ⟨hwf, hw⟩
    have h8 : w.toNat / 256 % 16 = 3 := by omega
    rw [decodeWord_of_0 (by omega)]
    simp only [decode0, extract_toNat, Nat.reducePow, h8, getLsbD_of_digit 7 h7, getLsbD_of_digit 3 h3]
    rfl
  case des =>
    obtain ⟨h8, h0, rfl⟩ := encDes_eq_iff.1 hw
    have h8' : w.toNat / 256 % 2 = 0 % 2 := by omega
    rw [decodeWord_of_misc (by omega)]
    simp only [decodeMisc, extract_toNat w 0 4, Nat.reducePow, Nat.div_one, h0, getLsbD_of_digit 8 h8']
    rfl
  case rjmp | rcall =>
    obtain ⟨h12, rfl⟩ := encK12_eq_iff.1 hw
    simp [decodeWord, Nat.shiftRight_eq_div_pow, h12]
  case ijmp | eijmp | icall | eicall | ret | reti | sleep | brk | wdr | lpmR0 | elpmR0 | spm | spmZInc | nop =>
    subst hw
    rfl
  case jmp =>
    obtain ⟨h9, h1, rfl⟩ := encFar_eq_iff.1 ⟨hw, hw1 _ rfl⟩
    rw [decodeWord_of_misc h9]
    obtain h0 | h0 : w.toNat % 16 = 12 ∨ w.toNat % 16 = 13 := by omega
    all_goals simp [decodeMisc, h0]
  case call =>
    obtain ⟨h9, h1, rfl⟩ := encFar_eq_iff.1 ⟨hw, hw1 _ rfl⟩
    rw [decodeWord_of_misc h9]
    obtain h0 | h0 : w.toNat % 16 = 14 ∨ w.toNat % 16 = 15 := by omega
    all_goals simp [decodeMisc, h0]
  case sbrc | sbrs | bst | bld =>
    obtain ⟨h9, h3, rfl, rfl⟩ := encRegBit_eq_iff.1 hw
    obtain ⟨h12, h11, h9⟩ := digits_of_div_512 h9
    rw [decodeWord_of_15 h12]
    simp only [decode15, extract_toNat, getLsbD_iff, Nat.reducePow, h11, h3, h9]
    rfl
  case sbic | sbis | sbi | cbi =>
    obtain ⟨h8, rfl, rfl⟩ := encIoBit_eq_iff.1 hw
    obtain ⟨h12, h8⟩ := digits_of_div_256 h8
    simp [decodeWord, decode9, Nat.shiftRight_eq_div_pow, h12, h8]
  case brbs =>
    obtain ⟨h10, rfl, rfl⟩ := encBranch_eq_iff.1 hw
    rw [decodeWord_of_15 (by omega), decode15]
    simp only [getLsbD_iff]
    rw [if_neg (by omega), if_neg (by omega)]
  case brbc =>
    obtain ⟨h10, rfl, rfl⟩ := encBranch_eq_iff.1 hw
    rw [decodeWord_of_15 (by omega), decode15]
    simp only [getLsbD_iff]
    rw [if_neg (by omega), if_pos (by omega)]
  case ldX | ldXInc | ldXDec | ldYInc | ldYDec | ldZInc | ldZDec | lpmZ | lpmZInc | elpmZ | elpmZInc | pop =>
    obtain ⟨h9, h0, rfl⟩ := encRd_eq_iff.1 hw
    simp [decodeWord_of_load h9, decodeLoad, h0]
  case lds =>
    obtain ⟨h9, h0, rfl⟩ := encRd_eq_iff.1 hw
    simp [decodeWord_of_load h9, decodeLoad, h0, ← hw1 _ rfl]
  case sts =>
    obtain ⟨h9, h0, rfl⟩ := encRd_eq_iff.1 hw
    simp [decodeWord_of_store h9, decodeStore, h0, ← hw1 _ rfl]
  case stX | stXInc | stXDec | stYInc | stYDec | stZInc | stZDec | xch | las | lac | lat | push =>
    obtain ⟨h9, h0, rfl⟩ := encRd_eq_iff.1 hw
    simp [decodeWord_of_store h9, decodeStore, h0]
  case com | neg | swap | inc | asr | lsr | ror | dec =>
    obtain ⟨h9, h0, rfl⟩ := encRd_eq_iff.1 hw
    simp [decodeWord_of_misc h9, decodeMisc, h0]
  case ldY | ldZ | stY | stZ =>
    obtain ⟨h9, h0, rfl⟩ := encRd_eq_iff.1 hw
    have hq : fieldQ w = 0#6 := fieldQ_eq_zero_iff.2 (by omega)
    have h9' := congrArg (· % 2) h9
    have h3 := digit_of_mod_16 h0
    rw [decodeWord_of_disp (by omega) (by omega)]
    simp only [decodeDisp, hq, if_true, getLsbD_of_digit 9 h9', getLsbD_of_digit 3 h3]
    rfl
  case lddY | lddZ | stdY | stdZ =>
    obtain ⟨h14, h12, h9, h3, rfl, rfl⟩ := encDisp_eq_iff.1 hw
    have hq : fieldQ w ≠ 0#6 := bne_iff_ne.1 hwf
    rw [decodeWord_of_disp h14 h12]
    simp only [decodeDisp, hq, if_false, getLsbD_of_digit 9 h9, getLsbD_of_digit 3 h3]
    rfl
  case inIo =>
    obtain ⟨h11, rfl, rfl⟩ := encIo_eq_iff.1 hw
    have h12 : w.toNat / 4096 = 11 := by omega
    have h11' : w.toNat / 2048 % 2 = 0 % 2 := by omega
    simp only [decodeWord, extract_toNat, Nat.reducePow, h12, getLsbD_of_digit 11 h11']
    rfl
  case out =>
    obtain ⟨h11, rfl, rfl⟩ := encIo_eq_iff.1 hw
    have h12 : w.toNat / 4096 = 11 := by omega
    have h11' : w.toNat / 2048 % 2 = 1 % 2 := by omega
    simp only [decodeWord, extract_toNat, Nat.reducePow, h12, getLsbD_of_digit 11 h11']
    rfl
  case bset | bclr =>
    obtain ⟨h8, h0, h7, rfl⟩ := encFlag_eq_iff.1 hw
    have h8' : w.toNat / 256 % 2 = 0 % 2 := by omega
    rw [decodeWord_of_misc (by omega)]
    simp only [decodeMisc, extract_toNat w 0 4, Nat.reducePow, Nat.div_one, h0, decodeFlagOrNone,
      getLsbD_of_digit 8 h8', getLsbD_of_digit 7 h7]
    rfl
  case ldsRc | stsRc => cases hhas
  all_goals cases hc

/-! ### AVRrc (R118, R119, R125) -/

theorem decodeRcDirect_encodes (h10 : w.toNat / 4096 = 10) : (decodeRcDirect w).canonical = decodeRcDirect w ∧
    (decodeRcDirect w).wellFormed = true ∧ encodeFirst (decodeRcDirect w) = w := by
  by_cases h11 : w.toNat / 2048 % 2 = 1
  · rw [decodeRcDirect, if_pos ((getLsbD_iff w 11).2 h11)]
    exact ⟨rfl, encRc_eq_iff.2 ⟨h10, h11, rfl, rfl⟩⟩
  · rw [decodeRcDirect, if_neg (mt (getLsbD_iff w 11).1 h11)]
    exact ⟨rfl, encRc_eq_iff.2 ⟨h10, Nat.mod_two_ne_one.1 h11, rfl, rfl⟩⟩

/-- What AVRrc reads apart from its LDS and STS, it reads as the other cores do. -/
theorem decode_avrrc_cases (h : decode .avrrc w w1 = .ok i) :
    w.toNat / 4096 = 10 ∧ i = decodeRcDirect w ∨ decodeWord w w1 = .ok i := by
  have := w.isLt
  simp only [decode, if_true, extract_toNat] at h
  split_ifs at h with h10
  · cases h
    exact .inl ⟨by omega, rfl⟩
  · split at h
    · cases h
    · rename_i j hj
      split_ifs at h
      cases h
      exact .inr hj

/-- AVRrc has no displacement (R117, R118). -/
theorem decodeDisp_has (hq : fieldQ w ≠ 0#6) (h : decodeDisp w = .ok i) : Core.avrrc.has i = false := by
  simp only [decodeDisp, hq, if_false] at h
  split at h <;> cases h <;> rfl

/-- AVRrc reads as the other cores do what is an instruction of both. -/
theorem decode_avrrc_of_decodeWord (h : decodeWord w w1 = .ok i) (hhas : Core.avrrc.has i = true)
    (hlow : i.namesUpperOnly = true) : decode .avrrc w w1 = .ok i := by
  have := w.isLt
  have hdisp (h14 : w.toNat / 16384 = 2) (h12 : w.toNat / 4096 % 2 = 0) : fieldQ w = 0#6 := by
    rw [decodeWord_of_disp h14 h12] at h
    by_contra hq
    rw [decodeDisp_has hq h] at hhas
    cases hhas
  have h10 : ¬w.toNat / 2 ^ 12 % 2 ^ 4 = 10 := fun e => by
    have := (fieldQ_eq_zero_iff.1 (hdisp (by omega) (by omega))).1
    omega
  have h8 : ¬(w.toNat / 2 ^ 12 % 2 ^ 4 = 8 ∧ fieldQ w ≠ 0#6) := fun ⟨e, hq⟩ => hq (hdisp (by omega) (by omega))
  rw [decode, if_pos rfl, extract_toNat, if_neg h10, if_neg h8, h]
  simp [hlow]

theorem avrxm_has_eq_false_iff (i : Instr) :
    Core.avrxm.has i = false ↔ (∃ d k, i = .ldsRc d k) ∨ ∃ k r, i = .stsRc k r := by
  cases i <;> simp [Core.has, Core.notReduced, Core.onlyReduced, Core.fromAvre, Core.fromAvrePlus, Core.onlyXm,
    Core.xmOrXt]

theorem avrxm_has_of_ne_avrrc {core : Core} (h : core ≠ .avrrc) (hhas : core.has i = true) :
    Core.avrxm.has i = true := by
  by_contra hxm
  rw [Bool.not_eq_true, avrxm_has_eq_false_iff] at hxm
  obtain ⟨d, k, rfl⟩ | ⟨k, r, rfl⟩ := hxm <;> exact h (beq_iff_eq.1 hhas)

/-- AVRrc reads its own LDS and STS (R118). -/
theorem decode_avrrc_encodeFirst (hwf : i.wellFormed = true) (hxm : Core.avrxm.has i = false) (hw : encodeFirst i = w) :
    decode .avrrc w w1 = .ok i := by
  obtain ⟨d, k, rfl⟩ | ⟨k, r, rfl⟩ := (avrxm_has_eq_false_iff i).1 hxm <;>
    obtain ⟨h10, h11, rfl, rfl⟩ := encRc_eq_iff.1 ⟨hwf, hw⟩ <;>
    simp only [decode, if_true, extract_toNat, Nat.reducePow, h10, decodeRcDirect, getLsbD_of_digit 11 h11] <;>
    rfl

/-- What encodes a canonical instruction of a core is read by that core as the instruction. -/
theorem decode_encodeFirst {core : Core} (hc : i.canonical = i) (hwf : i.wellFormed = true) (hhas : core.has i = true)
    (hlow : core = .avrrc → i.namesUpperOnly = true) (hw1 : ∀ x ∈ (encode i)[1]?, x = w1) :
    decode core (encodeFirst i) w1 = .ok i := by
  by_cases hrc : core = .avrrc
  · subst hrc
    by_cases hxm : Core.avrxm.has i = true
    · exact decode_avrrc_of_decodeWord (decodeWord_encodeFirst hc hwf hxm rfl hw1) hhas (hlow rfl)
    · exact decode_avrrc_encodeFirst hwf (Bool.not_eq_true _ ▸ hxm) rfl
  · rw [decode, if_neg hrc]
    exact decodeWord_encodeFirst hc hwf (avrxm_has_of_ne_avrrc hrc hhas) rfl hw1

/-! ### The words of what is decoded -/

theorem encode_of_avrrc (h : Core.avrrc.has i = true) : encode i = [encodeFirst i] := by
  unfold encode
  split
  any_goals rfl
  all_goals cases h

theorem Encodes.encode_eq (h : Encodes i w w1) {core : Core} (hrc : core ≠ .avrrc) :
    encode i = if instrLen core w = 2 then [w, w1] else [w] := by
  obtain ⟨hlong, he⟩ | ⟨hshort, he⟩ := h.words
  · rw [if_pos ((instrLen_eq_two_iff hrc).2 hlong), he, h.first.2]
  · rw [if_neg (mt (instrLen_eq_two_iff hrc).1 hshort), he, h.first.2]

/-- Settles O2: what each part of the opcode map reads (decodeWord_encodes), and the LDS and STS of AVRrc. -/
theorem encodeOfDecode : Obligations.EncodeOfDecode := by
  intro core w w1 i h
  by_cases hrc : core = .avrrc
  · subst hrc
    obtain ⟨h10, rfl⟩ | h := decode_avrrc_cases h
    · obtain ⟨hc, hwf, hw⟩ := decodeRcDirect_encodes h10
      exact ⟨hwf, hc, hw, fun hne => absurd rfl hne⟩
    · obtain ⟨hc, ⟨hwf, hw⟩, -⟩ := decodeWord_encodes h
      exact ⟨hwf, hc, hw, fun hne => absurd rfl hne⟩
  · rw [decode, if_neg hrc] at h
    have he := decodeWord_encodes h
    exact ⟨he.first.1, he.canonical, he.first.2, fun _ => he.encode_eq hrc⟩

/-! ### The bytes of an instruction (20_memory R62) -/

theorem encode_eq_one_or_two (i : Instr) : encode i = [encodeFirst i] ∨ ∃ x, encode i = [encodeFirst i, x] := by
  unfold encode
  split
  case h_5 => exact .inl rfl
  all_goals exact .inr ⟨_, rfl⟩

theorem bytes_append (w : Word) : w.extractLsb' 8 8 ++ w.extractLsb' 0 8 = w := by
  rw [← BitVec.toNat_inj, append_toNat, extract_toNat, extract_toNat]
  omega

theorem decodeBytes_one {core : Core} {rest : List Byte} (hl : instrLen core w ≠ 2) (h : decode core w 0#16 = .ok i) :
    decodeBytes core (w.extractLsb' 0 8 :: w.extractLsb' 8 8 :: rest) = .ok (i, rest) := by
  simp only [decodeBytes, bytes_append, hl, if_false, h]

theorem decodeBytes_two {core : Core} {rest : List Byte} (hl : instrLen core w = 2) (h : decode core w w1 = .ok i) :
    decodeBytes core (w.extractLsb' 0 8 :: w.extractLsb' 8 8 :: w1.extractLsb' 0 8 :: w1.extractLsb' 8 8 :: rest) =
      .ok (i, rest) := by
  simp only [decodeBytes, bytes_append, hl, if_true, h]

/-- As many words as the length of the first says (R101). -/
theorem encode_of_decode {core : Core} (h : decode core w w1 = .ok i) (hhas : core.has i = true) :
    encode i = if instrLen core w = 2 then [w, w1] else [w] := by
  obtain ⟨-, -, hw, he⟩ := encodeOfDecode core w w1 i h
  by_cases hrc : core = .avrrc
  · subst hrc
    rw [encode_of_avrrc hhas, hw]
    rfl
  · exact he hrc

/-- A canonical instruction comes back from its bytes. -/
theorem decodeBytes_encodeBytes {core : Core} (rest : List Byte) (hc : i.canonical = i) (hwf : i.wellFormed = true)
    (hhas : core.has i = true) (hlow : core = .avrrc → i.namesUpperOnly = true) :
    decodeBytes core (encodeBytes i ++ rest) = .ok (i, rest) := by
  obtain he | ⟨x, he⟩ := encode_eq_one_or_two i
  · have h := decode_encodeFirst (w1 := 0#16) hc hwf hhas hlow (by simp [he])
    have hl : instrLen core (encodeFirst i) ≠ 2 := fun hl => by simpa [he, hl] using encode_of_decode h hhas
    rw [encodeBytes, he]
    exact decodeBytes_one hl h
  · have h := decode_encodeFirst (w1 := x) hc hwf hhas hlow (by simp [he])
    have hl : instrLen core (encodeFirst i) = 2 := by
      by_contra hl
      simpa [he, hl] using encode_of_decode h hhas
    rw [encodeBytes, he]
    exact decodeBytes_two hl h

/-! ### Aliases (R115) -/

/-- The family Canonical, of every instruction. -/
theorem canonical_statement (i : Instr) : Laws.Canonical.Statement i := by
  cases i
  case tst d => exact Laws.Canonical.tst d
  case clr d => exact Laws.Canonical.clr d
  case lsl d => exact Laws.Canonical.lsl d
  case rol d => exact Laws.Canonical.rol d
  all_goals exact ⟨rfl, id, fun _ => rfl, rfl, rfl⟩

/-- Aliases are the words of their canonical instruction. -/
theorem encode_canonical (i : Instr) : encode i.canonical = encode i := by
  cases i <;> rfl

/-- Settles O1: the canonical instruction has the same bytes (encode_canonical), and comes back from them
(decodeBytes_encodeBytes). -/
theorem decodeOfEncode : Obligations.DecodeOfEncode := by
  intro core i rest hwf hhas hlow
  obtain ⟨hc, hcwf, hchas, hclow, -⟩ := canonical_statement i
  rw [encodeBytes, ← encode_canonical]
  exact decodeBytes_encodeBytes rest hc (hcwf hwf) (hchas core ▸ hhas) fun hrc => hclow ▸ hlow hrc

end Sys2Proof
end

section
/-! What aliases do (30_encoding R115), CPSE, SBRC and SBRS (41_change_of_flow R201), and the operands called
undefined (30_encoding R122, 42_data_transfer R261). -/

namespace Sys2Proof.Machine

/-! ### What aliases do (30_encoding R115) -/

theorem State.setR_r_eq_self (s : State) (d : Reg) : s.setR d (s.r d) = s := by
  have h : s.regs.set d.val (s.r d) d.isLt = s.regs := Vector.set_getElem_self d.isLt
  rw [State.setR, h]

theorem lslFlags_eq_addFlags8 : ∀ x : Byte, lslFlags x = addFlags8 x x false := by decide

theorem rolFlags_eq_addFlags8 : ∀ (c : Bool) (x : Byte), rolFlags x c = addFlags8 x x c := by decide

/-- TST is AND of a register with itself, which leaves it. -/
theorem exec_tst (d : Reg) (s : State) : exec (.tst d) s = exec (.and d d) s := by
  show execTst d s = writeAlu d (logicFlags8 (s.r d &&& s.r d)) putSVNZ s
  rw [BitVec.and_self, writeAlu, show (logicFlags8 (s.r d)).res = s.r d from rfl, s.setR_r_eq_self d]
  rfl

/-- CLR is EOR of a register with itself. -/
theorem exec_clr (d : Reg) (s : State) : exec (.clr d) s = exec (.eor d d) s := by
  show execClr d s = writeAlu d (logicFlags8 (s.r d ^^^ s.r d)) putSVNZ s
  rw [BitVec.xor_self]
  rfl

/-- LSL is ADD of a register to itself. -/
theorem exec_lsl (d : Reg) (s : State) : exec (.lsl d) s = exec (.add d d) s := by
  show writeAlu d (lslFlags (s.r d)) putHSVNZC s = _
  rw [lslFlags_eq_addFlags8]
  rfl

/-- ROL is ADC of a register to itself. -/
theorem exec_rol (d : Reg) (s : State) : exec (.rol d) s = exec (.adc d d) s := by
  show writeAlu d (rolFlags (s.r d) (flagC s.sreg)) putHSVNZC s = _
  rw [rolFlags_eq_addFlags8]
  rfl

/-- Settles O36: the other aliases call the operation of their canonical instruction. -/
theorem aliasesAreCanonical : Obligations.AliasesAreCanonical := by
  intro i s hwf
  refine ⟨?_, (encode_canonical i).symm⟩
  cases i
  case tst d => exact exec_tst d s
  case clr d => exact exec_clr d s
  case lsl d => exact exec_lsl d s
  case rol d => exact exec_rol d s
  all_goals rfl

/-! ### CPSE, SBRC and SBRS (41_change_of_flow R201, R212, R216, R217) -/

/-- Settles O46: the three are skips, by their condition (State.skipIf_false, State.skipIf_true). -/
theorem skipResult : Obligations.SkipResult := by
  intro s d r b nxt p hp
  have hexec : exec p.1 s = s.skipIf p.2 := by
    simp only [List.mem_cons, List.not_mem_nil, or_false] at hp
    rcases hp with rfl | rfl | rfl <;> rfl
  have hnext : s.nextWord = nxt := rfl
  have hframe (n : Nat) : s.OnlyChanges (s.advance n) [] := (State.OnlyChanges.refl s _).advance
  rw [hexec]
  refine ⟨fun hc => ?_, fun hc hend => ?_, fun hc hend => ?_⟩
  · rw [hc, State.skipIf_false]
    exact ⟨_, rfl, rfl, hframe 1⟩
  · rw [hc, State.skipIf_true, hnext, if_neg (Nat.not_lt.2 hend)]
    exact ⟨_, rfl, rfl, hframe _⟩
  · rw [hc, State.skipIf_true, hnext, if_pos hend]

/-! ### Undefined operands (30_encoding R122, 42_data_transfer R261) -/

theorem Ptr.holds_iff (p : Ptr) (d : Reg) : p.holds d = true ↔ d.val = p.lo.val ∨ d.val = p.lo.val + 1 := by
  revert d
  cases p <;> decide

/-- What stops otherwise than by undefined operands. -/
def NotUndefined {α : Type} (o : Res α) : Prop := ∀ mn, o ≠ .fault (.undefinedOperands mn)

theorem NotUndefined.next {α : Type} (x : α) : NotUndefined (.next x : Res α) := fun _ => nofun

theorem NotUndefined.andThen {α β : Type} {o : Res α} {k : α → Res β} (ho : NotUndefined o)
    (hk : ∀ x, NotUndefined (k x)) : NotUndefined (andThen o k) := by
  cases o with
  | next x => exact hk x
  | fault f => exact fun mn h => ho mn (by cases h; rfl)
  | refused r => exact fun _ => nofun

theorem State.progWord_notUndefined (s : State) (a : Nat) : NotUndefined (s.progWord a) := by
  intro mn
  rw [State.progWord]
  split <;> simp

theorem State.progByte_notUndefined (s : State) (b : Nat) : NotUndefined (s.progByte b) :=
  (s.progWord_notUndefined _).andThen fun _ => .next _

theorem State.memRead_notUndefined (s : State) (a : Nat) : NotUndefined (s.memRead a) := by
  rw [State.memRead]
  split
  case h_4 => exact (s.progByte_notUndefined _).andThen fun _ => .next _
  case h_6 => exact fun _ => nofun
  all_goals exact .next _

theorem State.memWrite_notUndefined (s : State) (a : Nat) (v : Byte) : NotUndefined (s.memWrite a v) := by
  rw [State.memWrite]
  split
  case h_4 | h_6 => exact fun _ => nofun
  all_goals exact .next _

theorem loadAt_notUndefined (a : Nat) (d : Reg) (n : Nat) (s : State) : NotUndefined (loadAt a d n s) :=
  (s.memRead_notUndefined a).andThen fun _ => .next _

theorem storeAt_notUndefined (a : Nat) (r : Reg) (n : Nat) (s : State) : NotUndefined (storeAt a r n s) :=
  (s.memWrite_notUndefined a _).andThen fun _ => .next _

/-- An instruction that checks its register against the pointer first, and whose operation does not stop in that way. -/
theorem undefined_iff {mn : String} {o e : Res State} (p : Ptr) (d : Reg) (ho : NotUndefined o)
    (he : e = if p.holds d then .fault (.undefinedOperands mn) else o) :
    (d.val = p.lo.val ∨ d.val = p.lo.val + 1) ↔ e = .fault (.undefinedOperands mn) := by
  rw [← p.holds_iff, he]
  split
  · simp [*]
  · simp [*, ho mn]

section
variable (p : Ptr) (d : Reg) (mn : String) (s : State)

theorem loadInc_undefined_iff :
    (d.val = p.lo.val ∨ d.val = p.lo.val + 1) ↔ loadInc mn p d s = .fault (.undefinedOperands mn) :=
  undefined_iff p d ((s.memRead_notUndefined _).andThen fun _ => .next _) rfl

theorem loadDec_undefined_iff :
    (d.val = p.lo.val ∨ d.val = p.lo.val + 1) ↔ loadDec mn p d s = .fault (.undefinedOperands mn) :=
  undefined_iff p d (loadAt_notUndefined _ _ _ _) rfl

theorem storeInc_undefined_iff :
    (d.val = p.lo.val ∨ d.val = p.lo.val + 1) ↔ storeInc mn p d s = .fault (.undefinedOperands mn) :=
  undefined_iff p d ((s.memWrite_notUndefined _ _).andThen fun _ => .next _) rfl

theorem storeDec_undefined_iff :
    (d.val = p.lo.val ∨ d.val = p.lo.val + 1) ↔ storeDec mn p d s = .fault (.undefinedOperands mn) :=
  undefined_iff p d (storeAt_notUndefined _ _ _ _) rfl

theorem lpmZInc_undefined_iff :
    (d.val = 30 ∨ d.val = 31) ↔ exec (.lpmZInc d) s = .fault (.undefinedOperands "LPM") :=
  undefined_iff .z d ((s.progByte_notUndefined _).andThen fun _ => .next _) rfl

theorem elpmZInc_undefined_iff :
    (d.val = 30 ∨ d.val = 31) ↔ exec (.elpmZInc d) s = .fault (.undefinedOperands "ELPM") :=
  undefined_iff .z d ((s.progByte_notUndefined _).andThen fun _ => .next _) rfl

end

/-- Settles O53: by the mode and its pointer. -/
theorem undefinedOperands : Obligations.UndefinedOperands := by
  intro s d p hp
  simp only [List.mem_cons, List.not_mem_nil, or_false] at hp
  rcases hp with rfl | rfl | rfl | rfl | rfl | rfl | rfl | rfl | rfl | rfl | rfl | rfl | rfl | rfl
  · exact loadInc_undefined_iff .x d "LD" s
  · exact loadDec_undefined_iff .x d "LD" s
  · exact loadInc_undefined_iff .y d "LD" s
  · exact loadDec_undefined_iff .y d "LD" s
  · exact loadInc_undefined_iff .z d "LD" s
  · exact loadDec_undefined_iff .z d "LD" s
  · exact storeInc_undefined_iff .x d "ST" s
  · exact storeDec_undefined_iff .x d "ST" s
  · exact storeInc_undefined_iff .y d "ST" s
  · exact storeDec_undefined_iff .y d "ST" s
  · exact storeInc_undefined_iff .z d "ST" s
  · exact storeDec_undefined_iff .z d "ST" s
  · exact lpmZInc_undefined_iff d s
  · exact elpmZInc_undefined_iff d s

end Sys2Proof.Machine
end

section
/-! Arithmetic and logic (40_arithmetic_logic): what each shared write of a result leaves, and the results and flags of the
instructions that end in it. -/

namespace Sys2Proof.Machine

/-! ### The shared writes of a result (R143; 10_state R28) -/

/-- A byte result: the register, SREG, the next word, and the frame. -/
theorem writeAlu_spec (d : Reg) (f : Alu) (put : Byte → Alu → Byte) (s : State) :
    ∃ t, writeAlu d f put s = .next t ∧ t.r d = f.res ∧ t.sreg = put s.sreg f ∧ t.pc = s.pcPlus 1 ∧
      s.OnlyChanges t [.reg d, .sreg] :=
  ⟨_, rfl, State.setR_r_self s d _, rfl, rfl, (((State.OnlyChanges.refl _ _).setR (by simp)).setSreg (by simp)).advance⟩

/-- The flags of a compare alone. -/
theorem compareAlu_spec (f : Alu) (s : State) :
    ∃ t, compareAlu f s = .next t ∧ t.sreg = putHSVNZC s.sreg f ∧ t.pc = s.pcPlus 1 ∧ s.OnlyChanges t [.sreg] :=
  ⟨_, rfl, rfl, rfl, ((State.OnlyChanges.refl _ _).setSreg (by simp)).advance⟩

/-- A result in a pair of registers. -/
theorem writeAlu16_spec (d : Reg) (f : Alu16) (s : State) :
    ∃ t, writeAlu16 d f s = .next t ∧ t.pair d = f.res ∧ t.sreg = putSVNZC16 s.sreg f ∧ t.pc = s.pcPlus 1 ∧
      s.OnlyChanges t [.reg d, .reg (d + 1), .sreg] :=
  ⟨_, rfl, State.pair_setPair s d _, rfl, rfl,
    (((State.OnlyChanges.refl _ _).setPair (by simp) (by simp)).setSreg (by simp)).advance⟩

/-- A product in R1:R0. -/
theorem writeProduct_spec (f : Alu16) (s : State) :
    ∃ t, writeProduct f s = .next t ∧ (t.r 1).toNat * 256 + (t.r 0).toNat = f.res.toNat ∧
      t.sreg = putZC16 s.sreg f ∧ t.pc = s.pcPlus 1 ∧ s.OnlyChanges t [.reg 0, .reg 1, .sreg] := by
  refine ⟨_, rfl, ?_, rfl, rfl, (((State.OnlyChanges.refl _ _).setPair (by simp) (by simp)).setSreg (by simp)).advance⟩
  exact (State.pair_toNat _ 0).symm.trans (congrArg BitVec.toNat (State.pair_setPair s 0 f.res))

/-! ### Addition, subtraction and compares (R140, R141, R145, R146, R148 to R151, R213 to R215) -/

/-- Settles O24: both are AddFlags8, whose carry in is 0 for ADD and C for ADC. -/
theorem addResult : Obligations.AddResult := by
  intro s d r p hp
  have hexec : exec p.1 s = writeAlu d (addFlags8 (s.r d) (s.r r) p.2) putHSVNZC s := by
    simp only [List.mem_cons, List.not_mem_nil, or_false] at hp
    rcases hp with rfl | rfl <;> rfl
  obtain ⟨t, ht, hr, hsreg, hpc, hframe⟩ := writeAlu_spec d (addFlags8 (s.r d) (s.r r) p.2) putHSVNZC s
  obtain ⟨hres, hh, hv, hn, hz, hc⟩ := addFlags8_spec (s.r d) (s.r r) p.2
  refine ⟨t, hexec.trans ht, by rw [hr, hres], ?_, hpc, hframe⟩
  rw [hsreg, putHSVNZC, Alu.s, hh, hv, hn, hz, hc, hr]

/-- SREG after SubFlags8, whose Z is cleared alone where it is kept (R141). -/
theorem putHSVNZC_subFlags8 (sr a b : Byte) (c k z : Bool) :
    let f := subFlags8 a b c k z
    let x : Int := a.toInt - b.toInt - c.toNat
    let v := decide (x < -128 ∨ 127 < x)
    putHSVNZC sr f = sregOf (flagI sr) (flagT sr) (decide (a.toNat % 16 < b.toNat % 16 + c.toNat)) (f.res.msb ^^ v) v
      f.res.msb (decide (f.res.toNat = 0) && (!k || z)) (decide (a.toNat < b.toNat + c.toNat)) := by
  obtain ⟨hres, hh, hv, hn, hz, hc⟩ := subFlags8_spec a b c k z
  intro f x v
  rw [putHSVNZC, Alu.s, hh, hv, hn, hz, hc, hres]

/-- Settles O25: all four are SubFlags8 of the register and the other operand, with C and a kept Z for SBC and SBCI. -/
theorem subtractResult : Obligations.SubtractResult := by
  intro s d r k p hp
  obtain ⟨keep, z, hexec, hkeep⟩ : ∃ keep z, exec p.1 s =
      writeAlu d (subFlags8 (s.r d) p.2.1 p.2.2.1 keep z) putHSVNZC s ∧ (!keep || z) = p.2.2.2 := by
    simp only [List.mem_cons, List.not_mem_nil, or_false] at hp
    rcases hp with rfl | rfl | rfl | rfl <;> exact ⟨_, _, rfl, rfl⟩
  obtain ⟨t, ht, hr, hsreg, hpc, hframe⟩ := writeAlu_spec d (subFlags8 (s.r d) p.2.1 p.2.2.1 keep z) putHSVNZC s
  refine ⟨t, hexec.trans ht, ?_, ?_, hpc, hframe⟩
  · rw [hr]; exact (subFlags8_spec _ _ _ _ _).1
  · rw [hsreg, putHSVNZC_subFlags8, hkeep, hr]

/-- Settles O26: the compares are the flags of SubFlags8. -/
theorem compareResult : Obligations.CompareResult := by
  intro s d r k p hp
  obtain ⟨keep, z, hexec, hkeep⟩ : ∃ keep z, exec p.1 s =
      compareAlu (subFlags8 (s.r d) p.2.1 p.2.2.1 keep z) s ∧ (!keep || z) = p.2.2.2 := by
    simp only [List.mem_cons, List.not_mem_nil, or_false] at hp
    rcases hp with rfl | rfl | rfl <;> exact ⟨_, _, rfl, rfl⟩
  obtain ⟨t, ht, hsreg, hpc, hframe⟩ := compareAlu_spec (subFlags8 (s.r d) p.2.1 p.2.2.1 keep z) s
  refine ⟨t, hexec.trans ht, ?_, hpc, hframe⟩
  rw [hsreg, putHSVNZC_subFlags8, hkeep, byte_msb, (subFlags8_spec _ _ _ _ _).1]

/-! ### What the flags of a compare say (R175) -/

/-- Without a carry in the result is the difference. -/
theorem subFlags8_res_of_no_carry (a b : Byte) (k z : Bool) : (subFlags8 a b false k z).res = a - b :=
  BitVec.sub_zero (a - b)

theorem byte_sub_eq_zero_iff (a b : Byte) : (a - b).toNat = 0 ↔ a = b := by
  rw [← BitVec.toNat_zero, ← BitVec.toNat_eq]
  exact sub_eq_zero

/-- The sign of the true difference: the top bit of the difference, corrected by the overflow. -/
theorem signed_lt_iff (a b : Byte) :
    ((a - b).msb ^^ decide (a.toInt - b.toInt < -128 ∨ 127 < a.toInt - b.toInt)) = true ↔ a.toInt < b.toInt := by
  have ha := a.isLt
  have hb := b.isLt
  rw [byte_msb, BitVec.toNat_sub, byte_toInt, byte_toInt, bne_iff_ne, ne_eq, decide_eq_decide]
  omega

/-- SREG after CP, CPI, SUB and SUBI: that of a subtraction without a carry in. -/
theorem sreg_of_compare {s t : State} {d r : Reg} {k : BitVec 8} {p : Instr × Byte}
    (hp : p ∈ [(Instr.cp d r, s.r r), (Instr.cpi d k, k), (Instr.sub d r, s.r r), (Instr.subi d k, k)])
    (h : exec p.1 s = .next t) : t.sreg = putHSVNZC s.sreg (subFlags8 (s.r d) p.2 false false (flagZ s.sreg)) := by
  simp only [List.mem_cons, List.not_mem_nil, or_false] at hp
  rcases hp with rfl | rfl | rfl | rfl <;> cases h <;> rfl

/-- Settles O27: the flags of a subtraction without a carry in, read as orders of the operands. -/
theorem compareMeansOrder : Obligations.CompareMeansOrder := by
  intro s t d r k p hp h
  rw [sreg_of_compare hp h, putHSVNZC_subFlags8]
  simp only [flagC_sregOf, flagZ_sregOf, flagS_sregOf, flagN_sregOf, flagV_sregOf, subFlags8_res_of_no_carry,
    Bool.toNat_false, Nat.cast_zero, sub_zero, add_zero, Bool.not_false, Bool.true_or, Bool.and_true, decide_eq_true_eq,
    byte_sub_eq_zero_iff, signed_lt_iff, true_and]
  omega

/-! ### ADIW and SBIW (R147, R152) -/

/-- Settles O28: the pair and its flags are those of ADIW and SBIW as arithmetic. -/
theorem wordImmediateResult : Obligations.WordImmediateResult := by
  intro s d k p hp
  have hk := k.isLt
  have ha := (s.pair d).isLt
  obtain ⟨f, hexec, hres, hv, hn, hz, hc⟩ : ∃ f : Alu16, exec p.1 s = writeAlu16 d f s ∧
      (f.res.toNat : Int) = ((s.pair d).toNat + p.2) % 65536 ∧
      f.v = decide ((s.pair d).toInt + p.2 < -32768 ∨ 32767 < (s.pair d).toInt + p.2) ∧ f.n = f.res.msb ∧
      f.z = decide (f.res = 0#16) ∧
      f.c = decide (((s.pair d).toNat : Int) + p.2 < 0 ∨ 65535 < ((s.pair d).toNat : Int) + p.2) := by
    simp only [List.mem_cons, List.not_mem_nil, or_false] at hp
    rcases hp with rfl | rfl
    · obtain ⟨hres, hflags⟩ := adiwFlags_spec (s.pair d) k
      exact ⟨adiwFlags (s.pair d) k, rfl, by rw [hres]; push_cast; rfl, hflags⟩
    · obtain ⟨hres, hflags⟩ := sbiwFlags_spec (s.pair d) k
      exact ⟨sbiwFlags (s.pair d) k, rfl, by rw [hres]; dsimp only; omega, hflags⟩
  obtain ⟨t, ht, hpair, hsreg, hpc, hframe⟩ := writeAlu16_spec d f s
  refine ⟨t, hexec.trans ht, by rw [hpair, hres], ?_, hpc, hframe⟩
  rw [hsreg, putSVNZC16, Alu16.s, hv, hn, hz, hc, hpair]

/-! ### Logic (R142, R153 to R157, R160, R161, R164, R165) -/

/-- SREG after LogicFlags8 of a result whose bits are known. -/
theorem putSVNZ_logicFlags8 (sr : Byte) {x : Byte} {bit : Nat → Bool} (h : ∀ j : Nat, j < 8 → x.getLsbD j = bit j) :
    putSVNZ sr (logicFlags8 x) = sregOf (flagI sr) (flagT sr) (flagH sr) (bit 7) false (bit 7)
      (decide (∀ j : Nat, j < 8 → bit j = false)) (flagC sr) := by
  have hz : (x == 0#8) = decide (∀ j : Nat, j < 8 → bit j = false) := by
    rw [byte_eq_zero_iff_bits, decide_eq_decide]
    exact forall₂_congr fun j hj => by rw [h j hj]
  simp only [putSVNZ, Alu.s, logicFlags8, hz, h 7 (by decide), Bool.xor_false]

/-- Settles O29: all nine are LogicFlags8 of a byte with the bits that the statement names. -/
theorem logicResult : Obligations.LogicResult := by
  intro s d r k p hp
  obtain ⟨x, hexec, hbits⟩ : ∃ x, exec p.1 s = writeAlu d (logicFlags8 x) putSVNZ s ∧
      ∀ j : Nat, j < 8 → x.getLsbD j = p.2 j := by
    simp only [List.mem_cons, List.not_mem_nil, or_false] at hp
    rcases hp with rfl | rfl | rfl | rfl | rfl | rfl | rfl | rfl | rfl
    · exact ⟨_, rfl, fun j _ => BitVec.getLsbD_and⟩
    · exact ⟨_, rfl, fun j _ => BitVec.getLsbD_and⟩
    · exact ⟨_, rfl, fun j _ => BitVec.getLsbD_or⟩
    · exact ⟨_, rfl, fun j _ => BitVec.getLsbD_or⟩
    · exact ⟨_, rfl, fun j _ => BitVec.getLsbD_xor⟩
    · exact ⟨_, rfl, fun j _ => BitVec.getLsbD_or⟩
    · refine ⟨_, rfl, fun j hj => ?_⟩
      rw [show 0xFF#8 - k = ~~~k from BitVec.allOnes_sub_eq_not k, BitVec.getLsbD_and, BitVec.getLsbD_not, decide_eq_true hj,
        Bool.true_and]
    · exact ⟨_, exec_tst d s, fun j _ => by rw [BitVec.and_self]⟩
    · exact ⟨_, rfl, fun j _ => BitVec.getLsbD_zero⟩
  obtain ⟨t, ht, hr, hsreg, hpc, hframe⟩ := writeAlu_spec d (logicFlags8 x) putSVNZ s
  refine ⟨t, hexec.trans ht, fun j hj => ?_, ?_, hpc, hframe⟩
  · rw [hr]; exact hbits j hj
  · rw [hsreg, putSVNZ_logicFlags8 s.sreg hbits]

/-! ### COM, NEG, INC and DEC (R158, R159, R162, R163) -/

/-- Settles O30: the arithmetic of each, and the flags that its writer keeps. -/
theorem oneOperandResult : Obligations.OneOperandResult := by
  intro s d a p hp
  obtain ⟨f, put, hexec, hres, hput⟩ : ∃ f put, exec p.1 s = writeAlu d f put s ∧ f.res.toNat = p.2.1 ∧
      put s.sreg f = sregOf (flagI s.sreg) (flagT s.sreg) p.2.2.2.1 (f.res.msb ^^ p.2.2.1) p.2.2.1 f.res.msb
        (decide (p.2.1 = 0)) p.2.2.2.2 := by
    simp only [List.mem_cons, List.not_mem_nil, or_false] at hp
    rcases hp with rfl | rfl | rfl | rfl
    · obtain ⟨hres, hv, hn, hz, hc⟩ := comFlags_spec (s.r d)
      exact ⟨_, _, rfl, hres, by rw [putSVNZC, Alu.s, hv, hn, hz, hc]⟩
    · obtain ⟨hres, hh, hv, hn, hz, hc⟩ := negFlags_spec (s.r d)
      exact ⟨_, _, rfl, hres, by rw [putHSVNZC, Alu.s, hh, hv, hn, hz, hc]⟩
    · obtain ⟨hres, hv, hn, hz⟩ := incFlags_spec (s.r d)
      exact ⟨_, _, rfl, hres, by rw [putSVNZ, Alu.s, hv, hn, hz]⟩
    · obtain ⟨hres, hv, hn, hz⟩ := decFlags_spec (s.r d)
      exact ⟨_, _, rfl, hres, by rw [putSVNZ, Alu.s, hv, hn, hz]⟩
  obtain ⟨t, ht, hr, hsreg, hpc, hframe⟩ := writeAlu_spec d f put s
  refine ⟨t, hexec.trans ht, by rw [hr, hres], ?_, hpc, hframe⟩
  rw [hsreg, hput, hr]

/-! ### Multiplication (R167 to R172) -/

theorem word_eq_zero (w : BitVec 16) : (w == 0#16) = decide ((w.toNat : Int) = 0) := by
  rw [Bool.eq_iff_iff, beq_iff_eq, decide_eq_true_eq, BitVec.toNat_eq, Int.natCast_eq_zero, BitVec.toNat_zero]

/-- A product mod 65536, and its bit 15. -/
theorem mulFlags_spec (x : Int) :
    ((mulFlags x).res.toNat : Int) = x % 65536 ∧ (mulFlags x).z = decide (x % 65536 = 0) ∧
    (mulFlags x).c = decide (32768 ≤ x % 65536) := by
  have hres : ((BitVec.ofInt 16 x).toNat : Int) = x % 65536 := by rw [BitVec.toNat_ofInt]; omega
  refine ⟨hres, (word_eq_zero _).trans (by rw [hres]), (word_bit15 _).trans ?_⟩
  rw [decide_eq_decide, ← hres]
  omega

/-- A product shifted left once, mod 65536, with bit 15 of the product. -/
theorem fmulFlags_spec (x : Int) :
    ((fmulFlags x).res.toNat : Int) = 2 * x % 65536 ∧ (fmulFlags x).z = decide (2 * x % 65536 = 0) ∧
    (fmulFlags x).c = decide (32768 ≤ x % 65536) := by
  have hres : ((BitVec.ofInt 16 x <<< 1).toNat : Int) = 2 * x % 65536 := by
    rw [BitVec.toNat_shiftLeft, Nat.shiftLeft_eq, BitVec.toNat_ofInt]; omega
  exact ⟨hres, (word_eq_zero _).trans (by rw [hres]), (mulFlags_spec x).2.2⟩

/-- A product of two bytes, each signed or unsigned, is zero mod 65536 only where it is zero. -/
theorem product_mod_eq_zero_iff {x y : Int} (hx : -128 ≤ x ∧ x ≤ 255) (hy : -128 ≤ y ∧ y ≤ 255) :
    x * y % 65536 = 0 ↔ x * y = 0 := by
  have hbound : |x * y| ≤ 255 * 255 := by
    rw [abs_mul]
    exact mul_le_mul (abs_le.2 ⟨by omega, hx.2⟩) (abs_le.2 ⟨by omega, hy.2⟩) (abs_nonneg y) (by decide)
  obtain ⟨hlow, hhigh⟩ := abs_le.1 hbound
  omega

theorem byte_toNat_bounds (a : Byte) : (-128 : Int) ≤ a.toNat ∧ (a.toNat : Int) ≤ 255 := by
  have := a.isLt
  omega

theorem byte_toInt_bounds (a : Byte) : -128 ≤ a.toInt ∧ a.toInt ≤ 255 := by
  have := a.isLt
  rw [byte_toInt]
  split <;> omega

/-- Settles O31: the product's bytes are R1:R0, and no product of two bytes reaches ±65536. -/
theorem multiplyResult : Obligations.MultiplyResult := by
  intro s d r p hp
  obtain ⟨hexec, hzero⟩ : exec p.1 s = writeProduct (mulFlags p.2) s ∧ (p.2 % 65536 = 0 ↔ p.2 = 0) := by
    simp only [List.mem_cons, List.not_mem_nil, or_false] at hp
    rcases hp with rfl | rfl | rfl
    · exact ⟨rfl, product_mod_eq_zero_iff (byte_toNat_bounds _) (byte_toNat_bounds _)⟩
    · exact ⟨rfl, product_mod_eq_zero_iff (byte_toInt_bounds _) (byte_toInt_bounds _)⟩
    · exact ⟨rfl, product_mod_eq_zero_iff (byte_toInt_bounds _) (byte_toNat_bounds _)⟩
  obtain ⟨t, ht, hr, hsreg, hpc, hframe⟩ := writeProduct_spec (mulFlags p.2) s
  obtain ⟨hres, hz, hc⟩ := mulFlags_spec p.2
  refine ⟨t, hexec.trans ht, ?_, ?_, hpc, hframe⟩
  · rw [← hres, ← hr]; push_cast; rfl
  · rw [hsreg, putZC16, hz, hc, decide_eq_decide.2 hzero]

/-- Settles O32: the shifted product's bytes are R1:R0. -/
theorem fractionalResult : Obligations.FractionalResult := by
  intro s d r p hp
  have hexec : exec p.1 s = writeProduct (fmulFlags p.2) s := by
    simp only [List.mem_cons, List.not_mem_nil, or_false] at hp
    rcases hp with rfl | rfl | rfl <;> rfl
  obtain ⟨t, ht, hr, hsreg, hpc, hframe⟩ := writeProduct_spec (fmulFlags p.2) s
  obtain ⟨hres, hz, hc⟩ := fmulFlags_spec p.2
  refine ⟨t, hexec.trans ht, ?_, ?_, hpc, hframe⟩
  · rw [← hres, ← hr]; push_cast; rfl
  · rw [hsreg, putZC16, hz, hc]

end Sys2Proof.Machine
end

section
/-! Chains of byte instructions (40_arithmetic_logic R174): numbers of any number of bytes, added, subtracted and compared
byte by byte, the carry handed on. -/

namespace Sys2Proof.Machine

/-! ### What one byte, and then a number of bytes, do to C and Z -/

/-- A relation between two numbers below `M`, a result below `M`, and C and Z before and after. -/
abbrev DigitRel := (M A B N : Nat) → (c z c' z' : Bool) → Prop

/-- The relation may be found byte by byte, the lowest first, C and Z handed on from each to the next. -/
structure DigitRel.Positional (R : DigitRel) : Prop where
  nil : ∀ c z, R 1 0 0 0 c z c z
  cons : ∀ {M a b x A B N : Nat} {c z c₁ z₁ c' z' : Bool}, R 256 a b x c z c₁ z₁ → R M A B N c₁ z₁ c' z' →
    R (M * 256) (a + 256 * A) (b + 256 * B) (x + 256 * N) c z c' z'

/-- The sum with a carry in and a carry out (R140). -/
def IsSum : DigitRel := fun M A B N c _ c' _ => N < M ∧ N + M * c'.toNat = A + B + c.toNat

/-- The difference with a borrow in and a borrow out, and the Z that can only be cleared (R141). -/
def IsDifference : DigitRel := fun M A B N c z c' z' =>
  N < M ∧ N + B + c.toNat = A + M * c'.toNat ∧ z' = (z && decide (N = 0))

theorem isSum_positional : DigitRel.Positional IsSum where
  nil c z := ⟨Nat.one_pos, by omega⟩
  cons := by
    rintro M a b x A B N c z c₁ z₁ c' z' ⟨hx, hlow⟩ ⟨hN, hhigh⟩
    exact ⟨by omega, by linarith⟩

theorem isDifference_positional : DigitRel.Positional IsDifference where
  nil c z := ⟨Nat.one_pos, by omega, by simp⟩
  cons := by
    rintro M a b x A B N c z c₁ z₁ c' z' ⟨hx, hlow, rfl⟩ ⟨hN, hhigh, rfl⟩
    refine ⟨by omega, by linarith, ?_⟩
    rw [Bool.and_assoc, ← Bool.decide_and]
    congr 2
    exact propext (by omega)

/-- A sum without a carry in. -/
theorem IsSum.eq {M A B N : Nat} {z c' z' : Bool} (h : IsSum M A B N false z c' z') :
    N = (A + B) % M ∧ (c' = true ↔ M ≤ A + B) := by
  obtain ⟨hN, hsum⟩ := h
  cases c' <;> simp only [Bool.toNat_true, Bool.toNat_false, mul_zero, mul_one, add_zero] at hsum
  · exact ⟨by rw [← hsum, Nat.mod_eq_of_lt hN], by simp only [Bool.false_eq_true, false_iff]; omega⟩
  · exact ⟨by rw [← hsum, Nat.add_mod_right, Nat.mod_eq_of_lt hN], by simp only [true_iff]; omega⟩

/-- A difference without a borrow in, Z set before. -/
theorem IsDifference.eq {M A B N : Nat} {c' z' : Bool} (h : IsDifference M A B N false true c' z') (hB : B < M) :
    N = (A + M - B) % M ∧ (c' = true ↔ A < B) ∧ (z' = true ↔ A = B) := by
  obtain ⟨hN, hdiff, rfl⟩ := h
  rw [Bool.true_and, decide_eq_true_eq]
  cases c' <;> simp only [Bool.toNat_true, Bool.toNat_false, mul_zero, mul_one, add_zero] at hdiff
  · have hres : A + M - B = N + M := by omega
    rw [hres, Nat.add_mod_right, Nat.mod_eq_of_lt hN]
    exact ⟨rfl, by simp only [Bool.false_eq_true, false_iff]; omega, by omega⟩
  · have hres : A + M - B = N := by omega
    rw [hres, Nat.mod_eq_of_lt hN]
    exact ⟨rfl, by simp only [true_iff]; omega, by omega⟩

theorem decide_toNat (p : Prop) [Decidable p] : (decide p).toNat = if p then 1 else 0 := Bool.cond_decide p 1 0

/-- AddFlags8 on one byte; Z is not part of the relation. -/
theorem addFlags8_isSum (a b : Byte) (c z z' : Bool) :
    IsSum 256 a.toNat b.toNat (addFlags8 a b c).res.toNat c z (addFlags8 a b c).c z' := by
  obtain ⟨hres, -, -, -, -, hc⟩ := addFlags8_spec a b c
  have ha := a.isLt
  have hb := b.isLt
  have hcin := c.toNat_le
  refine ⟨BitVec.isLt _, ?_⟩
  rw [hres, hc, decide_toNat]
  split <;> omega

/-- SubFlags8 on one byte; `k` says whether Z is kept. -/
theorem subFlags8_isDifference (a b : Byte) (c k z : Bool) :
    IsDifference 256 a.toNat b.toNat (subFlags8 a b c k z).res.toNat c (!k || z) (subFlags8 a b c k z).c
      (subFlags8 a b c k z).z := by
  obtain ⟨hres, -, -, -, hz, hc⟩ := subFlags8_spec a b c k z
  have ha := a.isLt
  have hb := b.isLt
  have hcin := c.toNat_le
  refine ⟨BitVec.isLt _, ?_, by rw [hz, hres, Bool.and_comm]⟩
  rw [hres, hc, decide_toNat]
  split <;> omega

/-! ### Numbers in registers -/

theorem State.number_lt (s : State) (is : List Reg) : s.number is < 256 ^ is.length := by
  induction is with
  | nil => exact Nat.one_pos
  | cons i is ih =>
    have hi := (s.r i).isLt
    rw [State.number, List.length_cons, pow_succ]
    omega

theorem State.number_congr {s t : State} {is : List Reg} (h : ∀ i ∈ is, t.r i = s.r i) : t.number is = s.number is := by
  induction is with
  | nil => rfl
  | cons i is ih =>
    rw [State.number, State.number, h i (List.mem_cons_self ..), ih fun j hj => h j (List.mem_cons_of_mem _ hj)]

/-! ### One instruction, and a chain -/

/-- The instruction finds the byte that stands in the relation to R[d] and R[r], from C and Z as given to C and Z as it
leaves them. Where it writes (`w`), the byte is in R[d]; no other register changes. -/
def ComputesByte (R : DigitRel) (w : Prop) (i : Instr) (d r : Reg) (s : State) (c z : Bool) : Prop :=
  ∃ t x, exec i s = .next t ∧ R 256 (s.r d).toNat (s.r r).toNat x c z (flagC t.sreg) (flagZ t.sreg) ∧
    (w → (t.r d).toNat = x) ∧ ∀ j, (w → j ≠ d) → t.r j = s.r j

/-- The instructions do the same to the numbers in the destinations and the sources of `ps`. -/
def Computes (R : DigitRel) (w : Prop) (is : List Instr) (ps : List (Reg × Reg)) (s : State) (c z : Bool) : Prop :=
  ∃ t N, execAll is s = .next t ∧
    R (256 ^ ps.length) (s.number (ps.map Prod.fst)) (s.number (ps.map Prod.snd)) N c z (flagC t.sreg) (flagZ t.sreg) ∧
    (w → t.number (ps.map Prod.fst) = N) ∧ ∀ j, (w → j ∉ ps.map Prod.fst) → t.r j = s.r j

variable {R : DigitRel} {w : Prop} {first later : Reg → Reg → Instr} {i : Instr} {d r : Reg} {s : State} {c z : Bool}

theorem ComputesByte.of_writeAlu {f : Alu} (h : exec i s = writeAlu d f putHSVNZC s)
    (hR : R 256 (s.r d).toNat (s.r r).toNat f.res.toNat c z f.c f.z) : ComputesByte R True i d r s c z := by
  obtain ⟨t, ht, hr, hsreg, -, hframe⟩ := writeAlu_spec d f putHSVNZC s
  refine ⟨t, f.res.toNat, h.trans ht, ?_, fun _ => by rw [hr], fun j hj => hframe.reg j (by simpa using hj)⟩
  rwa [hsreg, putHSVNZC, flagC_sregOf, flagZ_sregOf]

theorem ComputesByte.of_compareAlu {f : Alu} (h : exec i s = compareAlu f s)
    (hR : R 256 (s.r d).toNat (s.r r).toNat f.res.toNat c z f.c f.z) : ComputesByte R False i d r s c z := by
  obtain ⟨t, ht, hsreg, -, hframe⟩ := compareAlu_spec f s
  refine ⟨t, f.res.toNat, h.trans ht, ?_, False.elim, fun j _ => hframe.reg j (by simp)⟩
  rwa [hsreg, putHSVNZC, flagC_sregOf, flagZ_sregOf]

/-- An instruction on the lowest bytes, then a chain on the others: the instruction writes no register that the chain reads,
and the chain leaves the lowest byte alone. -/
theorem ComputesByte.cons (hR : R.Positional) {is : List Instr} {ps : List (Reg × Reg)} (hap : Apart ((d, r) :: ps))
    (hi : ComputesByte R w i d r s c z) (his : ∀ u : State, Computes R w is ps u (flagC u.sreg) (flagZ u.sreg)) :
    Computes R w (i :: is) ((d, r) :: ps) s c z := by
  obtain ⟨u, x, hu, hx, hux, huframe⟩ := hi
  obtain ⟨t, N, ht, hN, htN, htframe⟩ := his u
  have hapart : ∀ q ∈ ps, q.1 ≠ d ∧ q.2 ≠ d := (List.pairwise_cons.1 hap).1
  have hdst : u.number (ps.map Prod.fst) = s.number (ps.map Prod.fst) :=
    State.number_congr (List.forall_mem_map.2 fun q hq => huframe _ fun _ => (hapart q hq).1)
  have hsrc : u.number (ps.map Prod.snd) = s.number (ps.map Prod.snd) :=
    State.number_congr (List.forall_mem_map.2 fun q hq => huframe _ fun _ => (hapart q hq).2)
  have hlow : t.r d = u.r d := htframe d fun _ hd => by
    obtain ⟨q, hq, e⟩ := List.mem_map.1 hd
    exact (hapart q hq).1 e
  rw [hdst, hsrc] at hN
  refine ⟨t, x + 256 * N, by rw [execAll, hu]; exact ht, hR.cons hx hN, fun h => ?_, fun j hj => ?_⟩
  · rw [List.map_cons, State.number, htN h, hlow, hux h]
  · rw [htframe j fun h hm => hj h (List.mem_cons_of_mem _ hm), huframe j fun h => List.ne_of_not_mem_cons (hj h)]

/-- A chain of one instruction, which takes C and Z as it finds them. -/
theorem computes_map (hR : R.Positional)
    (hlater : ∀ d r (s : State), ComputesByte R w (later d r) d r s (flagC s.sreg) (flagZ s.sreg))
    (ps : List (Reg × Reg)) (hap : Apart ps) (s : State) :
    Computes R w (ps.map fun q => later q.1 q.2) ps s (flagC s.sreg) (flagZ s.sreg) := by
  induction ps generalizing s with
  | nil => exact ⟨s, 0, rfl, hR.nil _ _, fun _ => rfl, fun _ _ => rfl⟩
  | cons p ps ih => exact (hlater p.1 p.2 s).cons hR hap (ih (List.Pairwise.of_cons hap))

/-- A chain whose first instruction takes no carry, and whose Z does not depend on the Z before. -/
theorem computes_chain (hR : R.Positional)
    (hfirst : ∀ d r (s : State), ComputesByte R w (first d r) d r s false true)
    (hlater : ∀ d r (s : State), ComputesByte R w (later d r) d r s (flagC s.sreg) (flagZ s.sreg))
    {ps : List (Reg × Reg)} (hne : ps ≠ []) (hap : Apart ps) (s : State) :
    Computes R w (chain first later ps) ps s false true := by
  cases ps with
  | nil => exact absurd rfl hne
  | cons p ps => exact (hfirst p.1 p.2 s).cons hR hap (computes_map hR hlater ps (List.Pairwise.of_cons hap))

/-! ### The three chains -/

/-- Settles O35: each chain finds its number byte by byte, and that number fixes C and Z. -/
theorem multiByteArithmetic : Obligations.MultiByteArithmetic := by
  intro s ps hne hap A B M
  have hB : B < M := by simpa using s.number_lt (ps.map Prod.snd)
  refine ⟨?_, ?_, ?_⟩
  · obtain ⟨t, N, ht, hsum, hN, -⟩ : Computes IsSum True (chain .add .adc ps) ps s false true :=
      computes_chain isSum_positional (fun _ _ _ => .of_writeAlu rfl (addFlags8_isSum _ _ _ _ _))
        (fun _ _ _ => .of_writeAlu rfl (addFlags8_isSum _ _ _ _ _)) hne hap s
    obtain ⟨hres, hc⟩ := hsum.eq
    exact ⟨t, ht, (hN trivial).trans hres, hc⟩
  · obtain ⟨t, N, ht, hdiff, hN, -⟩ : Computes IsDifference True (chain .sub .sbc ps) ps s false true :=
      computes_chain isDifference_positional (fun _ _ _ => .of_writeAlu rfl (subFlags8_isDifference _ _ _ _ _))
        (fun _ _ _ => .of_writeAlu rfl (subFlags8_isDifference _ _ _ _ _)) hne hap s
    obtain ⟨hres, hc, hz⟩ := hdiff.eq hB
    exact ⟨t, ht, (hN trivial).trans hres, hc, hz⟩
  · obtain ⟨t, N, ht, hdiff, -, hframe⟩ : Computes IsDifference False (chain .cp .cpc ps) ps s false true :=
      computes_chain isDifference_positional (fun _ _ _ => .of_compareAlu rfl (subFlags8_isDifference _ _ _ _ _))
        (fun _ _ _ => .of_compareAlu rfl (subFlags8_isDifference _ _ _ _ _)) hne hap s
    obtain ⟨-, hc, hz⟩ := hdiff.eq hB
    exact ⟨t, ht, Vector.ext fun j hj => hframe ⟨j, hj⟩ False.elim, hc, hz⟩

end Sys2Proof.Machine
end

section
/-! Words the spec prints (30_encoding), DES (40_arithmetic_logic R173), and the moves (42_data_transfer R262 to R264). -/

namespace Sys2Proof.Machine

/-! ### Printed words -/

/-- Settles O4: the decoder evaluates on each word. -/
theorem decodeSpecWords : Obligations.DecodeSpecWords := by
  refine ⟨?_, ?_, ?_, ?_, ?_, ?_, ?_, ?_, ?_, ?_, ?_, ?_, ?_⟩ <;> decide

/-! ### R15:R0 as one block (R173) -/

/-- Registers written one after the other, each with a value that its number fixes. -/
theorem State.foldl_setR_r (f : Reg → Byte) (i : Reg) (l : List Reg) (s : State) :
    (l.foldl (fun t j => t.setR j (f j)) s).r i = if i ∈ l then f i else s.r i := by
  induction l generalizing s with
  | nil => rfl
  | cons j l ih =>
    rw [List.foldl_cons, ih, State.setR_r]
    by_cases hj : j = i
    · simp [hj]
    · simp [hj, Ne.symm hj]

theorem State.setBlock_r (s : State) (b : BitVec 128) {i : Reg} (h : i ∈ lowRegs) :
    (s.setBlock b).r i = b.extractLsb' (8 * i.val) 8 :=
  (State.foldl_setR_r _ i lowRegs s).trans (if_pos h)

theorem State.setBlock_pc (s : State) (b : BitVec 128) : (s.setBlock b).pc = s.pc :=
  List.foldlRecOn lowRegs _ (motive := fun t : State => t.pc = s.pc) rfl fun _ ht _ _ => ht

theorem State.setBlock_cfg (s : State) (b : BitVec 128) : (s.setBlock b).cfg = s.cfg :=
  ((State.OnlyChanges.refl s (lowRegs.map Part.reg)).setBlock fun _ hj => List.mem_map_of_mem hj).cfg

/-- The bytes of a block, written to R15:R0, are the block again. -/
theorem State.block_setBlock (s : State) (b : BitVec 128) : (s.setBlock b).block = b := by
  have hr : ∀ i ∈ lowRegs, (s.setBlock b).r i = b.extractLsb' (8 * i.val) 8 := fun i => s.setBlock_r b
  simp only [lowRegs, List.forall_mem_cons] at hr
  obtain ⟨h0, h1, h2, h3, h4, h5, h6, h7, h8, h9, h10, h11, h12, h13, h14, h15, -⟩ := hr
  rw [State.block, h0, h1, h2, h3, h4, h5, h6, h7, h8, h9, h10, h11, h12, h13, h14, h15]
  simp (disch := decide) only [BitVec.extractLsb'_append_extractLsb'_eq_extractLsb']
  exact BitVec.extractLsb'_eq_self

theorem State.advance_block (s : State) (n : Nat) : (s.advance n).block = s.block := rfl

/-- Settles O33: the round's block is written back, to R0 to R15 alone. -/
theorem desResult : Obligations.DesResult := by
  intro s k
  refine ⟨_, exec_des s k, ?_, ?_, ?_⟩
  · rw [State.advance_block, State.block_setBlock]
  · exact State.advance_pc_eq (State.setBlock_pc s _) (State.setBlock_cfg s _) 1
  · exact ((State.OnlyChanges.refl _ _).setBlock fun _ hj => List.mem_map_of_mem hj).advance

/-! ### MOV, LDI, SER and MOVW -/

/-- Settles O48: one byte, or a pair that is read whole before it is written. -/
theorem moveResult : Obligations.MoveResult := by
  intro s d r k
  refine ⟨fun p hp => ?_, ?_⟩
  · have hexec : exec p.1 s = .next ((s.setR d p.2).advance 1) := by
      simp only [List.mem_cons, List.not_mem_nil, or_false] at hp
      rcases hp with rfl | rfl | rfl <;> rfl
    exact ⟨_, hexec, State.setR_r_self s d _, rfl, ((State.OnlyChanges.refl _ _).setR (by simp)).advance⟩
  · refine ⟨_, rfl, ?_, ?_, rfl, ((State.OnlyChanges.refl _ _).setPair (by simp) (by simp)).advance⟩
    · rw [State.advance_r, State.setPair_r, if_neg (Reg.succ_ne d), if_pos rfl]
      exact BitVec.extractLsb'_append_eq_right
    · rw [State.advance_r, State.setPair_r, if_pos rfl]
      exact BitVec.extractLsb'_append_eq_left

end Sys2Proof.Machine
end

section
/-! Jumps and conditional branches (41_change_of_flow R200, R202 to R205, R220 to R239, R241): each sets the PC alone. -/

namespace Sys2Proof.Machine

/-- A branch goes to its target or to the next word, and changes the PC alone (R200, R241). -/
theorem branchIf_spec (c : Bool) (k : BitVec 7) (s : State) : ∃ t, branchIf c k s = .next t ∧
    t.pc = (if c then s.pcRel k.toInt else s.pcPlus 1) ∧ s.OnlyChanges t [] := by
  refine ⟨_, branchIf_eq c k s, ?_⟩
  cases c with
  | false => exact ⟨rfl, (State.OnlyChanges.refl s _).advance⟩
  | true => exact ⟨congrArg (BitVec.ofNat 22) (s.relTarget_mod k.toInt), (State.OnlyChanges.refl s _).setPc⟩

/-- Settles O41: each of the twenty is the one branch (branchIf_spec) on its bit of SREG. -/
theorem branchResult : Obligations.BranchResult := by
  intro s f k p hp
  have hexec : exec p.1 s = branchIf p.2 k s := by
    fin_cases hp <;> rfl
  rw [hexec]
  exact branchIf_spec p.2 k s

/-- Settles O42: each of the four sets the PC to its target, which is the stated one mod 2^PC_BITS. -/
theorem jumpResult : Obligations.JumpResult := by
  intro s k12 k22 z p hp
  have hjump : ∃ target, exec p.1 s = .next (s.setPc target) ∧ target % 2 ^ s.cfg.pcBits = p.2.toNat := by
    simp only [List.mem_cons, List.not_mem_nil, or_false] at hp
    rcases hp with rfl | rfl | rfl | rfl
    · exact ⟨_, rfl, s.relTarget_mod _⟩
    · exact ⟨_, rfl, by rw [State.zTarget_eq]; rfl⟩
    · exact ⟨_, rfl, by rw [State.eindTarget_eq]; rfl⟩
    · exact ⟨_, rfl, rfl⟩
  obtain ⟨target, hexec, htarget⟩ := hjump
  refine ⟨_, hexec, ?_, (State.OnlyChanges.refl s _).setPc⟩
  rw [State.setPc_pc, htarget]

end Sys2Proof.Machine
end

section
/-! What data transfers keep: SREG and its inhibit but for a store to SREG itself (42_data_transfer R308; 60_exceptions
R410), and the read-modify-write instructions (R303 to R307). -/

namespace Sys2Proof.Machine

variable {s t u : State} {a n x : Nat} {v old : Byte} {p : Ptr} {d r : Reg} {i : Instr}

/-! ### Read-modify-write (R303 to R307; log 22) -/

/-- On RAM: what the read did, the new byte in its place, the old byte in the register. -/
theorem rmw_of_memRead (hl : dataLoc s.cfg (s.ptrGet .z) = .ram) (hm : s.memRead (s.ptrGet .z) = .next (old, u))
    (mn : String) (f : Byte → Byte → Byte) (d : Reg) :
    rmw mn f d s = .next (((u.ramWrite (s.ptrGet .z) (f (s.r d) old)).setR d old).advance 1) := by
  have hread : s.ramRead (s.ptrGet .z) = (old, u) := by simpa only [State.memRead, hl, Host.Outcome.next.injEq] using hm
  simp only [rmw, hl, hread]

theorem rmw_unmapped (hl : dataLoc s.cfg (s.ptrGet .z) = .unmapped) (mn : String) (f : Byte → Byte → Byte) (d : Reg) :
    rmw mn f d s = .fault (.unmappedData (s.ptrGet .z)) := by
  simp only [rmw, hl]

/-- Every other class of address is refused (R307). -/
theorem rmw_refused (hram : dataLoc s.cfg (s.ptrGet .z) ≠ .ram) (hmap : dataLoc s.cfg (s.ptrGet .z) ≠ .unmapped)
    (mn : String) (f : Byte → Byte → Byte) (d : Reg) : rmw mn f d s = .refused (.deviceDefined mn) := by
  unfold rmw
  cases hl : dataLoc s.cfg (s.ptrGet .z) with
  | ram => exact absurd hl hram
  | unmapped => exact absurd hl hmap
  | reg | io | progWindow | other => simp only [hl]

/-- The complement as the manual writes it in LAC. -/
theorem byte_complement_bit (x : Byte) {j : Nat} (hj : j < 8) : (0xFF#8 - x).getLsbD j = !x.getLsbD j := by
  rw [show 0xFF#8 - x = ~~~x from BitVec.allOnes_sub_eq_not x, BitVec.getLsbD_not, decide_eq_true hj, Bool.true_and]

/-- Settles O59: each of the four is rmw with its byte of both, bit by bit, and rmw goes by the class of the address. -/
theorem readModifyWrite : Obligations.ReadModifyWrite := by
  intro s u d old x hx
  obtain ⟨f, hexec, hbits⟩ : ∃ f, exec x.1 s = rmw x.2.1 f d s ∧
      ∀ j : Nat, j < 8 → (f (s.r d) old).getLsbD j = x.2.2 j := by
    simp only [List.mem_cons, List.not_mem_nil, or_false] at hx
    rcases hx with rfl | rfl | rfl | rfl
    · exact ⟨fun reg _ => reg, rfl, fun _ _ => rfl⟩
    · exact ⟨fun reg old => reg ||| old, rfl, fun _ _ => BitVec.getLsbD_or⟩
    · refine ⟨fun reg old => (0xFF#8 - reg) &&& old, rfl, fun j hj => ?_⟩
      rw [BitVec.getLsbD_and, byte_complement_bit _ hj]
    · exact ⟨fun reg old => reg ^^^ old, rfl, fun _ _ => BitVec.getLsbD_xor⟩
  rw [hexec]
  refine ⟨fun hl hm => ?_, fun hram hmap => rmw_refused hram hmap _ f d, fun hl => rmw_unmapped hl _ f d⟩
  exact ⟨_, _, rmw_of_memRead hl hm _ f d, u.ramByte_ramWrite _ _, hbits, State.setR_r_self _ d old,
    State.advance_pc_eq (State.memRead_pc hm) (State.memRead_frame hm).cfg 1,
    (((State.OnlyChanges.refl u _).ramWrite (by simp)).setR (by simp)).advance⟩

/-! ### SREG, its inhibit and the PC through the operations of data transfers -/

/-- From `s` to `t` the PC, SREG and the inhibit stay, and the configuration that they depend on. -/
structure State.KeepsStatus (s t : State) : Prop where
  cfg : t.cfg = s.cfg
  pc : t.pc = s.pc
  sreg : t.sreg = s.sreg
  inhibit : t.inhibit = s.inhibit

theorem State.KeepsStatus.refl (s : State) : s.KeepsStatus s := ⟨rfl, rfl, rfl, rfl⟩

theorem State.KeepsStatus.trans (h : s.KeepsStatus t) (k : t.KeepsStatus u) : s.KeepsStatus u :=
  ⟨k.cfg.trans h.cfg, k.pc.trans h.pc, k.sreg.trans h.sreg, k.inhibit.trans h.inhibit⟩

theorem State.setR_keepsStatus (s : State) (d : Reg) (v : Byte) : s.KeepsStatus (s.setR d v) := ⟨rfl, rfl, rfl, rfl⟩

theorem State.setPair_keepsStatus (s : State) (d : Reg) (w : BitVec 16) : s.KeepsStatus (s.setPair d w) :=
  ⟨rfl, rfl, rfl, rfl⟩

theorem State.ramWrite_keepsStatus (s : State) (a : Nat) (v : Byte) : s.KeepsStatus (s.ramWrite a v) :=
  ⟨rfl, rfl, rfl, rfl⟩

theorem State.setSp_keepsStatus (s : State) (n : Nat) : s.KeepsStatus (s.setSp n) := ⟨rfl, rfl, rfl, rfl⟩

theorem State.setElpmAddr_keepsStatus (s : State) (n : Nat) : s.KeepsStatus (s.setElpmAddr n) := ⟨rfl, rfl, rfl, rfl⟩

theorem State.ptrSet_keepsStatus (s : State) (p : Ptr) (n : Nat) : s.KeepsStatus (s.ptrSet p n) := by
  unfold State.ptrSet
  split
  · exact ⟨rfl, rfl, rfl, rfl⟩
  · exact ⟨rfl, rfl, rfl, rfl⟩
  · cases p <;> exact ⟨rfl, rfl, rfl, rfl⟩

theorem State.ramRead_keepsStatus (s : State) (a : Nat) : s.KeepsStatus (s.ramRead a).2 := by
  unfold State.ramRead
  split <;> exact ⟨rfl, rfl, rfl, rfl⟩

theorem State.memRead_keepsStatus (h : s.memRead a = .next (v, t)) : s.KeepsStatus t := by
  rcases State.memRead_cases h with rfl | ⟨e, rfl⟩ | ⟨_, rfl⟩ <;> exact ⟨rfl, rfl, rfl, rfl⟩

theorem State.ioRead_keepsStatus (s : State) (a : Nat) : s.KeepsStatus (s.ioRead a).2 := by
  rcases State.ioRead_cases s a with e | e <;> rw [e] <;> exact ⟨rfl, rfl, rfl, rfl⟩

theorem State.pop_keepsStatus (h : s.pop = .next (v, t)) : s.KeepsStatus t :=
  (s.setSp_keepsStatus _).trans (State.memRead_keepsStatus h)

theorem spmWrite_keepsStatus (h : spmWrite s = .next t) : s.KeepsStatus t := by
  rcases spmWrite_cases h with ⟨_, h⟩ | ⟨_, rfl⟩
  · unfold State.setProgWord at h
    split at h <;> cases h
    exact ⟨rfl, rfl, rfl, rfl⟩
  · exact ⟨rfl, rfl, rfl, rfl⟩

/-! ### A write reaches SREG at its own address alone (R300) -/

theorem State.ioWrite_sregIo (s : State) (v : Byte) : s.ioWrite s.cfg.sregIo v = s.storeSreg v := if_pos rfl

theorem State.ioWrite_keepsStatus (h : a ≠ s.cfg.sregIo) (v : Byte) : s.KeepsStatus (s.ioWrite a v) := by
  unfold State.ioWrite
  rw [if_neg h]
  split_ifs <;> exact ⟨rfl, rfl, rfl, rfl⟩

theorem State.memWrite_keepsStatus (h : dataLoc s.cfg a ≠ .io s.cfg.sregIo) (hm : s.memWrite a v = .next t) :
    s.KeepsStatus t := by
  rcases State.memWrite_cases hm with ⟨_, rfl⟩ | ⟨i, _, rfl⟩ | ⟨m, hl, rfl⟩ | ⟨_, rfl⟩
  · exact ⟨rfl, rfl, rfl, rfl⟩
  · exact ⟨rfl, rfl, rfl, rfl⟩
  · exact State.ioWrite_keepsStatus (fun e => h (e ▸ hl)) v
  · exact ⟨rfl, rfl, rfl, rfl⟩

theorem State.memWrite_sreg (h : dataLoc s.cfg a = .io s.cfg.sregIo) (v : Byte) :
    s.memWrite a v = .next (s.storeSreg v) := by
  rw [State.memWrite_io v h, State.ioWrite_sregIo]

/-- A store to SREG that takes I from 0 to 1 sets the inhibit (60_exceptions R410). -/
theorem State.storeSreg_inhibit_of_enable (hs : flagI s.sreg = false) (hv : flagI v = true) :
    (s.storeSreg v).inhibit = true := by
  simp [hs, hv]

/-! ### The instructions that do not write data space (R262 to R277, R291 to R299, R302) and read-modify-write -/

/-- From `s` to `t` the PC has gone past `n` words, and SREG is as it was. -/
structure State.PassesWords (s t : State) (n : Nat) : Prop where
  sreg : t.sreg = s.sreg
  pc : t.pc = s.pcPlus n

theorem State.KeepsStatus.advance (h : s.KeepsStatus u) (n : Nat) : s.PassesWords (u.advance n) n :=
  ⟨h.sreg, State.advance_pc_eq h.pc h.cfg n⟩

theorem loadAt_passesWords (h : loadAt a d n s = .next t) : s.PassesWords t n := by
  obtain ⟨v, u, hu, rfl⟩ := loadAt_cases h
  exact ((State.memRead_keepsStatus hu).trans (u.setR_keepsStatus d v)).advance _

theorem loadInc_passesWords {mn : String} (h : loadInc mn p d s = .next t) : s.PassesWords t 1 := by
  obtain ⟨_, v, u, hu, rfl⟩ := loadInc_cases h
  have hstep := (State.memRead_keepsStatus hu).trans (u.ptrSet_keepsStatus p (s.ptrUp p))
  exact (hstep.trans (State.setR_keepsStatus _ d v)).advance 1

theorem loadDec_passesWords {mn : String} (h : loadDec mn p d s = .next t) : s.PassesWords t 1 := by
  obtain ⟨_, v, u, hu, rfl⟩ := loadDec_cases h
  exact (((s.ptrSet_keepsStatus p _).trans (State.memRead_keepsStatus hu)).trans (u.setR_keepsStatus d v)).advance _

theorem loadProg_passesWords (h : loadProg a d s = .next t) : s.PassesWords t 1 := by
  obtain ⟨v, _, rfl⟩ := loadProg_cases h
  exact (s.setR_keepsStatus d v).advance _

theorem rmw_passesWords {mn : String} {f : Byte → Byte → Byte} (h : rmw mn f d s = .next t) : s.PassesWords t 1 := by
  obtain ⟨_, rfl⟩ := rmw_cases h
  have hread := s.ramRead_keepsStatus (s.ptrGet .z)
  exact ((hread.trans (State.ramWrite_keepsStatus _ _ _)).trans (State.setR_keepsStatus _ d _)).advance 1

theorem lpmZInc_passesWords (h : execLpmZInc d s = .next t) : s.PassesWords t 1 := by
  unfold execLpmZInc at h
  split at h
  · cases h
  · obtain ⟨v, _, h⟩ := andThen_eq_next.1 h
    cases h
    exact ((s.setPair_keepsStatus _ _).trans (State.setR_keepsStatus _ d v)).advance 1

theorem elpmZInc_passesWords (h : execElpmZInc d s = .next t) : s.PassesWords t 1 := by
  unfold execElpmZInc at h
  split at h
  · cases h
  · obtain ⟨v, _, h⟩ := andThen_eq_next.1 h
    cases h
    exact ((s.setElpmAddr_keepsStatus _).trans (State.setR_keepsStatus _ d v)).advance _

/-- The data transfers that write no location of data space but RAM by a read-modify-write. -/
def transferLoads (d r : Reg) (k : BitVec 16) (k8 : BitVec 8) (q a : BitVec 6) : List Instr :=
  [.mov d r, .movw d r, .ldi d k8, .lds d k, .ldsRc d k8, .ldX d, .ldXInc d, .ldXDec d, .ldY d, .ldYInc d, .ldYDec d,
    .lddY d q, .ldZ d, .ldZInc d, .ldZDec d, .lddZ d q, .lpmR0, .lpmZ d, .lpmZInc d, .elpmR0, .elpmZ d, .elpmZInc d,
    .spm, .spmZInc, .inIo d a, .pop d, .xch d, .las d, .lac d, .lat d]

theorem exec_transferLoads {k : BitVec 16} {k8 : BitVec 8} {q b : BitVec 6} (hi : i ∈ transferLoads d r k k8 q b)
    (h : exec i s = .next t) : s.PassesWords t (encode i).length := by
  cases i with
  | mov | ldi => cases h; exact (s.setR_keepsStatus _ _).advance 1
  | movw => cases h; exact (s.setPair_keepsStatus _ _).advance 1
  | lds | ldsRc | ldX | ldY | lddY | ldZ | lddZ => exact loadAt_passesWords h
  | ldXInc | ldYInc | ldZInc => exact loadInc_passesWords h
  | ldXDec | ldYDec | ldZDec => exact loadDec_passesWords h
  | lpmR0 | lpmZ | elpmR0 | elpmZ => exact loadProg_passesWords h
  | lpmZInc => exact lpmZInc_passesWords h
  | elpmZInc => exact elpmZInc_passesWords h
  | spm =>
    obtain ⟨u, hu, h⟩ := andThen_eq_next.1 h
    cases h
    exact (spmWrite_keepsStatus hu).advance _
  | spmZInc =>
    obtain ⟨u, hu, h⟩ := andThen_eq_next.1 h
    cases h
    exact ((spmWrite_keepsStatus hu).trans (u.setElpmAddr_keepsStatus _)).advance _
  | inIo d b => cases h; exact ((s.ioRead_keepsStatus _).trans (State.setR_keepsStatus _ d _)).advance _
  | pop d =>
    obtain ⟨⟨v, u⟩, hu, h⟩ := andThen_eq_next.1 h
    cases h
    exact ((State.pop_keepsStatus hu).trans (u.setR_keepsStatus d v)).advance _
  | xch | las | lac | lat => simp only [exec, execXch, execLas, execLac, execLat] at h; exact rmw_passesWords h
  | _ => simp [transferLoads] at hi

/-! ### The stores (R278 to R290, R301) -/

/-- `t` is `s` past `n` words, after one write at the data address `x`; what comes before and after the write leaves
SREG and its inhibit. -/
def State.StoresPast (s t : State) (x n : Nat) : Prop :=
  ∃ u w v, s.KeepsStatus u ∧ u.memWrite x v = .next w ∧ ∃ w', w.KeepsStatus w' ∧ t = w'.advance n

theorem State.StoresPast.pc (h : s.StoresPast t x n) : t.pc = s.pcPlus n := by
  obtain ⟨u, w, v, hu, hm, w', hw, rfl⟩ := h
  obtain ⟨hpc, hcfg⟩ := State.memWrite_pc hm
  exact State.advance_pc_eq (hw.pc.trans (hpc.trans hu.pc)) (hw.cfg.trans (hcfg.trans hu.cfg)) n

theorem State.StoresPast.sreg (h : s.StoresPast t x n) (hx : dataLoc s.cfg x ≠ .io s.cfg.sregIo) :
    t.sreg = s.sreg := by
  obtain ⟨u, w, v, hu, hm, w', hw, rfl⟩ := h
  exact ((hu.trans (State.memWrite_keepsStatus (hu.cfg ▸ hx) hm)).trans hw).sreg

theorem State.StoresPast.inhibit (h : s.StoresPast t x n) (hx : dataLoc s.cfg x = .io s.cfg.sregIo)
    (hs : flagI s.sreg = false) (ht : flagI t.sreg = true) : t.inhibit = true := by
  obtain ⟨u, w, v, hu, hm, w', hw, rfl⟩ := h
  rw [State.memWrite_sreg (hu.cfg ▸ hx)] at hm
  cases hm
  have hv : flagI v = true := (congrArg flagI hw.sreg).symm.trans ht
  exact hw.inhibit.trans (State.storeSreg_inhibit_of_enable (hu.sreg ▸ hs) hv)

theorem storeAt_storesPast (h : storeAt a r n s = .next t) : s.StoresPast t a n := by
  obtain ⟨u, hu, rfl⟩ := storeAt_cases h
  exact ⟨s, u, _, .refl s, hu, u, .refl u, rfl⟩

theorem storeInc_storesPast {mn : String} (h : storeInc mn p r s = .next t) : s.StoresPast t (s.ptrGet p) 1 := by
  obtain ⟨_, u, hu, rfl⟩ := storeInc_cases h
  exact ⟨s, u, _, .refl s, hu, _, u.ptrSet_keepsStatus p _, rfl⟩

theorem storeDec_storesPast {mn : String} (h : storeDec mn p r s = .next t) : s.StoresPast t (s.ptrDown p) 1 := by
  obtain ⟨_, u, hu, rfl⟩ := storeDec_cases h
  exact ⟨_, u, _, s.ptrSet_keepsStatus p _, hu, u, .refl u, rfl⟩

theorem exec_push_storesPast (h : exec (.push r) s = .next t) : s.StoresPast t s.sp.toNat 1 := by
  rw [exec_push, andThen_eq_next] at h
  obtain ⟨u, hu, h⟩ := h
  cases h
  exact ⟨s, u, _, .refl s, hu, _, u.setSp_keepsStatus _, rfl⟩

/-- The data address that a store writes. -/
def State.storeAddr (s : State) : Instr → Option Nat
  | .sts k _ => some (s.directAddr k)
  | .stsRc k _ => some k.toNat
  | .stX _ | .stXInc _ => some (s.ptrGet .x)
  | .stXDec _ => some (s.ptrDown .x)
  | .stY _ | .stYInc _ => some (s.ptrGet .y)
  | .stYDec _ => some (s.ptrDown .y)
  | .stdY q _ => some (s.ptrDisp .y q)
  | .stZ _ | .stZInc _ => some (s.ptrGet .z)
  | .stZDec _ => some (s.ptrDown .z)
  | .stdZ q _ => some (s.ptrDisp .z q)
  | .push _ => some s.sp.toNat
  | _ => none

/-- A store that answers has made one write, at its address. -/
theorem exec_storesPast (hx : s.storeAddr i = some x) (h : exec i s = .next t) :
    s.StoresPast t x (encode i).length := by
  cases i with
  | sts | stsRc | stX | stY | stdY | stZ | stdZ => cases hx; exact storeAt_storesPast h
  | stXInc | stYInc | stZInc => cases hx; exact storeInc_storesPast h
  | stXDec | stYDec | stZDec => cases hx; exact storeDec_storesPast h
  | push => cases hx; exact exec_push_storesPast h
  | _ => cases hx

section
variable (s d r) (k : BitVec 16) (k8 : BitVec 8) (q b : BitVec 6)

/-- The stores, each with the data address that it writes. -/
def State.stores : List (Instr × Nat) :=
  [(.sts k r, s.directAddr k), (.stsRc k8 r, k8.toNat), (.stX r, s.ptrGet .x), (.stXInc r, s.ptrGet .x),
    (.stXDec r, s.ptrDown .x), (.stY r, s.ptrGet .y), (.stYInc r, s.ptrGet .y), (.stYDec r, s.ptrDown .y),
    (.stdY q r, s.ptrDisp .y q), (.stZ r, s.ptrGet .z), (.stZInc r, s.ptrGet .z), (.stZDec r, s.ptrDown .z),
    (.stdZ q r, s.ptrDisp .z q), (.push r, s.sp.toNat)]

theorem State.storeAddr_of_mem_stores : ∀ y ∈ s.stores r k k8 q, s.storeAddr y.1 = some y.2 := by
  simp [State.stores, State.storeAddr]

/-- LDS and STS alone have a second word (R308). -/
theorem encode_length_of_transfer : ∀ i ∈ transferLoads d r k k8 q b ++ (s.stores r k k8 q).map Prod.fst,
    (encode i).length = if i = .lds d k ∨ i = .sts k r then 2 else 1 := by
  simp [transferLoads, State.stores, encode]

end

/-- Settles O56: by the three ways of a data transfer, exec_transferLoads, exec_storesPast and OUT. -/
theorem transferKeepsFlags : Obligations.TransferKeepsFlags := by
  intro s t i d r k k8 q a h loads stores
  have store {x : Nat} (hx : (i, x) ∈ stores) : s.StoresPast t x (encode i).length :=
    exec_storesPast (s.storeAddr_of_mem_stores r k k8 q _ hx) h
  refine ⟨fun hi => (exec_transferLoads hi h).sreg, fun x hx hl => (store hx).sreg hl, ?_, ?_⟩
  · rintro rfl ha
    cases h
    exact (State.ioWrite_keepsStatus ha (s.r r)).sreg
  · rintro (rfl | hi)
    · cases h
      exact ⟨by simp [encode], s.ioWrite_advance_pc a.toNat (s.r r) 1⟩
    · refine ⟨encode_length_of_transfer s d r k k8 q a i hi, ?_⟩
      rcases List.mem_append.1 hi with hi | hi
      · exact (exec_transferLoads hi h).pc
      · obtain ⟨⟨_, x⟩, hx, rfl⟩ := List.mem_map.1 hi
        exact (store hx).pc

/-! ### The inhibit (60_exceptions R410) -/

/-- SEI, BSET 7 and OUT to SREG are one store to SREG. -/
theorem exec_storeSreg (hi : i ∈ [.sei, .bset 7#3, .out (BitVec.ofNat 6 s.cfg.sregIo) r]) (hsreg : s.cfg.sregIo < 64) :
    ∃ v, exec i s = .next ((s.storeSreg v).advance 1) := by
  simp only [List.mem_cons, List.not_mem_nil, or_false] at hi
  rcases hi with rfl | rfl | rfl
  · exact ⟨_, rfl⟩
  · exact ⟨_, rfl⟩
  · have haddr : (BitVec.ofNat 6 s.cfg.sregIo).toNat = s.cfg.sregIo := by
      rw [BitVec.toNat_ofNat, Nat.mod_eq_of_lt hsreg]
    exact ⟨s.r r, by rw [exec_out, haddr, State.ioWrite_sregIo]⟩

/-- While the inhibit is set no request is granted (R404, condition (b)). -/
theorem State.granted_of_inhibit (h : s.inhibit = true) (e : EnvEvent) : s.granted e = none := by
  cases e with
  | irq m level => simp [State.granted, State.maySend, h]
  | quiet | reset | mapFlash => rfl

theorem State.boundary_of_inhibit (h : s.inhibit = true) (hstop : s.stopped = false) (hreset : s.envHead ≠ .reset)
    (hawake : s.sleeping = false) : s.boundary = .run { s.takeEnv with inhibit := false } := by
  simp only [State.boundary, hstop, hreset, hawake, State.granted_of_inhibit h, Bool.false_eq_true, if_false]

/-- Settles O17: every store to SREG goes through State.storeSreg, RETI ends in IrqReturn, and the boundary grants
nothing under the inhibit. -/
theorem inhibitAfterEnable : Obligations.InhibitAfterEnable := by
  refine ⟨fun i s t r hi hsreg hs h ht => ?_, fun i x s t r k k8 q hx hl hs h ht => ?_, fun s t h => ?_,
    fun s => State.boundary_of_inhibit⟩
  · obtain ⟨v, hexec⟩ := exec_storeSreg hi hsreg
    rw [hexec] at h
    cases h
    exact State.storeSreg_inhibit_of_enable hs ht
  · exact (exec_storesPast (s.storeAddr_of_mem_stores r k k8 q _ hx) h).inhibit hl hs ht
  · rw [exec_reti, andThen_eq_next] at h
    obtain ⟨p, _, h⟩ := h
    cases h
    rfl

end Sys2Proof.Machine
end

section
/-! Shifts, single bits and the bits of SREG (43_bit_and_bit_test R339 to R345, R348 to R368). -/

namespace Sys2Proof.Machine

/-! ### Shifts and rotates (R339 to R344) -/

/-- Settles O37: the left shifts write H with the rest, the right shifts keep it; V is N ⊕ C in all five. -/
theorem shiftResult : Obligations.ShiftResult := by
  intro s d a c p hp
  obtain ⟨f, put, hexec, hres, hput⟩ : ∃ f put, exec p.1 s = writeAlu d f put s ∧ f.res.toNat = p.2.1 ∧
      (let n := decide (128 ≤ p.2.1); let v := n ^^ p.2.2.1
        put s.sreg f = sregOf (flagI s.sreg) (flagT s.sreg) p.2.2.2 (n ^^ v) v n (decide (p.2.1 = 0)) p.2.2.1) := by
    simp only [List.mem_cons, List.not_mem_nil, or_false] at hp
    rcases hp with rfl | rfl | rfl | rfl | rfl
    · obtain ⟨hres, hh, hv, hn, hz, hc⟩ := lslFlags_spec (s.r d)
      exact ⟨_, _, rfl, hres, by rw [putHSVNZC, Alu.s, hh, hv, hn, hz, hc]⟩
    · obtain ⟨hres, hh, hv, hn, hz, hc⟩ := rolFlags_spec (flagC s.sreg) (s.r d)
      exact ⟨_, _, rfl, hres, by rw [putHSVNZC, Alu.s, hh, hv, hn, hz, hc]⟩
    · obtain ⟨hres, hv, hn, hz, hc⟩ := lsrFlags_spec (s.r d)
      exact ⟨_, _, rfl, hres, by rw [putSVNZC, Alu.s, hv, hn, hz, hc]⟩
    · obtain ⟨hres, hv, hn, hz, hc⟩ := rorFlags_spec (flagC s.sreg) (s.r d)
      exact ⟨_, _, rfl, hres, by rw [putSVNZC, Alu.s, hv, hn, hz, hc]⟩
    · obtain ⟨hres, hv, hn, hz, hc⟩ := asrFlags_spec (s.r d)
      exact ⟨_, _, rfl, hres, by rw [putSVNZC, Alu.s, hv, hn, hz, hc]⟩
  obtain ⟨t, ht, hr, hsreg, hpc, hframe⟩ := writeAlu_spec d f put s
  exact ⟨t, hexec.trans ht, by rw [hr, hres], hsreg.trans hput, hpc, hframe⟩

/-! ### One bit of SREG (R350 to R368; 60_exceptions R410) -/

/-- The shared write of one flag: its bit, the inhibit, the next word, and the frame. -/
theorem writeFlag_spec (f : BitVec 3) (x : Bool) (s : State) :
    ∃ t, writeFlag f x s = .next t ∧
      (∀ j : Nat, j < 8 → t.sreg.getLsbD j = if j = f.toNat then x else s.sreg.getLsbD j) ∧
      t.inhibit = (s.inhibit || (!flagI s.sreg && flagI t.sreg)) ∧ t.pc = s.pcPlus 1 ∧
      s.OnlyChanges t [.sreg, .inhibit] :=
  ⟨_, rfl, putBit_bit s.sreg f x, rfl, rfl, ((State.OnlyChanges.refl _ _).storeSreg (by simp) (by simp)).advance⟩

/-- Settles O38: each of the eighteen is the write of the flag whose number the statement names. -/
theorem flagSetAndClear : Obligations.FlagSetAndClear := by
  intro s f p hp
  obtain ⟨g, hexec, hg⟩ : ∃ g : BitVec 3, exec p.1 s = writeFlag g p.2.2 s ∧ g.toNat = p.2.1 := by
    simp only [List.mem_cons, List.not_mem_nil, or_false] at hp
    rcases hp with rfl | rfl | rfl | rfl | rfl | rfl | rfl | rfl | rfl | rfl | rfl | rfl | rfl | rfl | rfl | rfl | rfl |
      rfl <;> exact ⟨_, rfl, rfl⟩
  rw [hexec, ← hg]
  exact writeFlag_spec g p.2.2 s

/-! ### T and the halves of a byte (R345, R348, R349) -/

/-- What an instruction that writes one register alone leaves. -/
theorem State.setR_advance_spec (s : State) (d : Reg) (v : Byte) :
    let t := (s.setR d v).advance 1
    t.r d = v ∧ t.pc = s.pcPlus 1 ∧ s.OnlyChanges t [.reg d] :=
  ⟨s.setR_r_self d v, rfl, ((State.OnlyChanges.refl _ _).setR (by simp)).advance⟩

/-- The low half moves up to the high one, and the high half down. -/
theorem byte_swapped_toNat (x : Byte) :
    (x.extractLsb' 0 4 ++ x.extractLsb' 4 4).toNat = x.toNat % 16 * 16 + x.toNat / 16 := by
  have hx := x.isLt
  have hhigh : (x.extractLsb' 4 4).toNat = x.toNat / 16 := by
    rw [BitVec.extractLsb'_toNat, Nat.shiftRight_eq_div_pow]; omega
  rw [BitVec.toNat_append, ← Nat.shiftLeft_add_eq_or_of_lt (x.extractLsb' 4 4).isLt, hhigh, Nat.shiftLeft_eq]
  rfl

/-- Settles O39: BST and BLD put one bit into SREG and into the register, SWAP joins the halves the other way round. -/
theorem bitTransferAndSwap : Obligations.BitTransferAndSwap := by
  intro s d b
  refine ⟨?bst, ?bld, ?swap⟩
  case bst =>
    exact ⟨_, rfl, putBit_bit s.sreg 6#3 _, rfl, ((State.OnlyChanges.refl _ _).setSreg (by simp)).advance⟩
  case bld =>
    obtain ⟨hr, hpc, hframe⟩ := s.setR_advance_spec d (putBit (s.r d) b (flagT s.sreg))
    exact ⟨_, rfl, by rw [hr]; exact putBit_bit (s.r d) b (flagT s.sreg), hpc, hframe⟩
  case swap =>
    obtain ⟨hr, hpc, hframe⟩ := s.setR_advance_spec d ((s.r d).extractLsb' 0 4 ++ (s.r d).extractLsb' 4 4)
    exact ⟨_, rfl, by rw [hr]; exact byte_swapped_toNat (s.r d), hpc, hframe⟩

end Sys2Proof.Machine
end

section
/-! What a step does at its boundary (60_exceptions R406), that nothing changes the configuration (log 1), and the
instructions of MCU control (44_mcu_control). -/

namespace Sys2Proof.Machine

variable {s t u : State} {ps : List Part}

/-! ### The boundary by its conditions (R406; log 30) -/

theorem State.boundary_of_stopped (h : s.stopped = true) : s.boundary = .stopped := if_pos h

theorem State.boundary_of_reset (hstop : s.stopped = false) (hreset : s.envHead = .reset) :
    s.boundary = .reset s.takeEnv.applyReset := by
  simp only [State.boundary, hstop, hreset, Bool.false_eq_true, if_false, if_true]

theorem State.boundary_of_granted {n : Nat} {level : IrqLevel} (hstop : s.stopped = false) (hreset : s.envHead ≠ .reset)
    (hg : s.granted s.envHead = some (n, level)) :
    s.boundary = .interrupt n level { s.takeEnv with inhibit := false, sleeping := false } := by
  simp only [State.boundary, hstop, hreset, hg, Bool.false_eq_true, if_false]

theorem State.boundary_of_not_granted (hstop : s.stopped = false) (hreset : s.envHead ≠ .reset)
    (hg : s.granted s.envHead = none) : s.boundary =
      if s.sleeping then .idle { s.takeEnv with inhibit := false } else .run { s.takeEnv with inhibit := false } := by
  simp only [State.boundary, hstop, hreset, hg, Bool.false_eq_true, if_false]

theorem State.boundary_eq_run_iff : s.boundary = .run u ↔
    s.stopped = false ∧ s.envHead ≠ .reset ∧ s.granted s.envHead = none ∧ s.sleeping = false ∧
      u = { s.takeEnv with inhibit := false } := by
  cases hstop : s.stopped with
  | true => simp [State.boundary_of_stopped hstop]
  | false =>
    by_cases hreset : s.envHead = .reset
    · simp [State.boundary_of_reset hstop hreset, hreset]
    · cases hg : s.granted s.envHead with
      | some request => simp [State.boundary_of_granted hstop hreset hg]
      | none => cases hsleep : s.sleeping <;>
          simp [State.boundary_of_not_granted hstop hreset hg, hsleep, hreset, eq_comm]

/-- A boundary slept through clears the inhibit, takes the environment's move and lets time pass (R392). -/
theorem step_of_asleep (hstop : s.stopped = false) (hsleep : s.sleeping = true) (hreset : s.envHead ≠ .reset)
    (hg : s.granted s.envHead = none) : step s = .next ({ s.takeEnv with inhibit := false }.charge .unstated) := by
  have hidle := State.boundary_of_not_granted hstop hreset hg
  rw [hsleep, if_pos rfl] at hidle
  simp only [step, hidle]

/-! ### No operation changes the configuration (log 1) -/

theorem State.memRead_cfg {a : Nat} {v : Byte} (h : s.memRead a = .next (v, t)) : t.cfg = s.cfg :=
  (State.memRead_frame h).cfg

theorem State.memWrite_cfg {a : Nat} {v : Byte} (h : s.memWrite a v = .next t) : t.cfg = s.cfg :=
  (State.memWrite_pc h).2

theorem State.popPc_cfg {a : Nat} (h : s.popPc = .next (a, t)) : t.cfg = s.cfg := by
  rw [State.popPc_eq, andThen_eq_next] at h
  obtain ⟨⟨bs, u⟩, hu, h⟩ := h
  cases h
  exact (State.popBytes_frame hu).cfg

theorem State.enterIrq_cfg {n : Nat} {level : IrqLevel} (h : s.enterIrq n level = .next t) : t.cfg = s.cfg := by
  obtain ⟨u, hu, rfl⟩ := State.enterIrq_cases h
  exact (State.pushPc_keeps hu).1

theorem State.skipIf_cfg {c : Bool} (h : s.skipIf c = .next t) : t.cfg = s.cfg := by
  rcases State.skipIf_cases h with ⟨_, rfl⟩ | ⟨_, w, _, rfl⟩ <;> rfl

theorem State.charge_cfg (s : State) (c : Cost) : (s.charge c).cfg = s.cfg := by cases c <;> rfl

theorem branchIf_cfg {c : Bool} {k : BitVec 7} (h : branchIf c k s = .next t) : t.cfg = s.cfg := by
  obtain ⟨_, hu, -, hframe⟩ := branchIf_spec c k s
  cases hu.symm.trans h
  exact hframe.cfg

/-- Every instruction keeps the configuration, by the operation that gives it its meaning. -/
theorem exec_cfg {i : Instr} (h : exec i s = .next t) : t.cfg = s.cfg := by
  cases i with
  | add | adc | sub | subi | sbc | sbci | and | andi | or | ori | eor | com | neg | sbr | cbr | inc | dec | clr | lsl
  | lsr | rol | ror | asr | adiw | sbiw | mul | muls | mulsu | fmul | fmuls | fmulsu | cp | cpc | cpi | tst | bst | ser
  | mov | ldi | swap | bld | movw | rjmp | ijmp | eijmp | jmp | bset | bclr | sec | clc | sen | cln | sez | clz
  | sei | cli | ses | cls | sev | clv | set | clt | seh | clh | nop => cases h; rfl
  | des k => rw [exec_des, Host.Outcome.next.injEq] at h; rw [← h, State.advance_cfg, State.setBlock_cfg]
  | rcall | icall | eicall | call =>
    obtain ⟨u, hu, rfl⟩ := callTo_cases h
    exact (State.pushPc_keeps hu).1
  | ret | reti =>
    obtain ⟨⟨a, u⟩, hu, h⟩ := andThen_eq_next.1 h
    cases h
    exact (State.popPc_cfg hu :)
  | cpse | sbrc | sbrs => exact State.skipIf_cfg h
  | sbic | sbis => exact (State.skipIf_cfg h).trans (s.ioRead_pc _).2
  | brbs | brbc | breq | brne | brcs | brcc | brsh | brlo | brmi | brpl | brge | brlt | brhs | brhc | brts | brtc | brvs
  | brvc | brie | brid => exact branchIf_cfg h
  | lds | ldsRc | ldX | ldY | lddY | ldZ | lddZ =>
    obtain ⟨v, u, hu, rfl⟩ := loadAt_cases h
    exact (State.memRead_cfg hu :)
  | ldXInc | ldYInc | ldZInc =>
    obtain ⟨_, v, u, hu, rfl⟩ := loadInc_cases h
    exact (u.ptrSet_cfg _ _).trans (State.memRead_cfg hu)
  | ldXDec | ldYDec | ldZDec =>
    obtain ⟨_, v, u, hu, rfl⟩ := loadDec_cases h
    exact (State.memRead_cfg hu).trans (s.ptrSet_cfg _ _)
  | sts | stsRc | stX | stY | stdY | stZ | stdZ =>
    obtain ⟨u, hu, rfl⟩ := storeAt_cases h
    exact (State.memWrite_cfg hu :)
  | stXInc | stYInc | stZInc =>
    obtain ⟨_, u, hu, rfl⟩ := storeInc_cases h
    exact (u.ptrSet_cfg _ _).trans (State.memWrite_cfg hu)
  | stXDec | stYDec | stZDec =>
    obtain ⟨_, u, hu, rfl⟩ := storeDec_cases h
    exact (State.memWrite_cfg hu).trans (s.ptrSet_cfg _ _)
  | lpmR0 | lpmZ | elpmR0 | elpmZ => obtain ⟨v, _, rfl⟩ := loadProg_cases h; rfl
  | lpmZInc | elpmZInc =>
    simp only [exec, execLpmZInc, execElpmZInc] at h
    split at h
    · cases h
    · obtain ⟨v, _, h⟩ := andThen_eq_next.1 h
      cases h; rfl
  | spm | spmZInc =>
    obtain ⟨u, hu, h⟩ := andThen_eq_next.1 h
    cases h
    exact (spmWrite_keepsStatus hu).cfg
  | inIo => cases h; exact (s.ioRead_pc _).2
  | out => cases h; exact (s.ioWrite_pc _ _).2
  | push =>
    rw [exec_push, andThen_eq_next] at h
    obtain ⟨u, hu, h⟩ := h
    cases h
    exact (State.memWrite_cfg hu :)
  | pop =>
    obtain ⟨⟨v, u⟩, hu, h⟩ := andThen_eq_next.1 h
    cases h
    exact (State.pop_keepsStatus hu).cfg
  | xch | las | lac | lat =>
    simp only [exec, execXch, execLas, execLac, execLat] at h
    obtain ⟨_, rfl⟩ := rmw_cases h
    exact s.ramRead_cfg _
  | sbi | cbi => cases h; exact (State.ioWrite_pc _ _ _).2.trans (s.ioRead_pc _).2
  | brk | sleep | wdr =>
    simp only [exec, execBreak, execSleep, execWdr] at h
    split at h <;> cases h
    rfl

/-- Neither the boundary nor what the step then does changes the configuration. -/
theorem step_cfg (h : step s = .next t) : t.cfg = s.cfg := by
  rcases s.boundary_cases with e | e | ⟨n, level, -, e⟩ | e | e <;> simp only [step, e, andThen_eq_next] at h
  · cases h
  · cases h
    exact State.charge_cfg _ _
  · obtain ⟨v, hv, h⟩ := h
    cases h
    exact (v.charge_cfg _).trans (State.enterIrq_cfg hv :)
  · cases h
    exact State.charge_cfg _ _
  · obtain ⟨i, -, v, hv, h⟩ := h
    cases h
    exact (v.charge_cfg _).trans (exec_cfg hv :)

/-- Settles O6: the boundary by its conditions, a boundary slept through (step_of_asleep), and step_cfg. -/
theorem stepAtBoundary : Obligations.StepAtBoundary := by
  refine ⟨fun s u => State.boundary_eq_run_iff, fun s hstop => ?_, fun s hstop hsleep hreset hg => ?_,
    fun s t => step_cfg⟩
  · simp only [step, State.boundary_of_stopped hstop]
  · exact ⟨_, step_of_asleep hstop hsleep hreset hg, rfl, rfl, rfl, rfl, rfl, rfl, hsleep, rfl, rfl, rfl, rfl, rfl, rfl,
      rfl⟩

/-! ### BREAK, NOP, SLEEP and WDR (R390 to R395) -/

theorem State.OnlyChanges.setStopped (h : s.OnlyChanges t ps) (x : Bool) (hi : Part.stopped ∈ ps) :
    s.OnlyChanges { t with stopped := x } ps := by
  refine h.trans ?_
  constructor <;> intros <;> first | rfl | contradiction

theorem State.OnlyChanges.setSleeping (h : s.OnlyChanges t ps) (x : Bool) (answers : List Bool)
    (hi : Part.sleeping ∈ ps) (hj : Part.sleepAnswers ∈ ps) :
    s.OnlyChanges { t with sleeping := x, sleepAnswers := answers } ps := by
  refine h.trans ?_
  constructor <;> intros <;> first | rfl | contradiction

/-- BREAK where it has its effect (R390; log 12). -/
theorem exec_brk (h : s.cfg.breakEffect = .modelled) :
    exec .brk s = .next ({ s with stopped := s.stopped || s.cfg.debugAttached }.advance 1) := by
  simp only [exec, execBreak, h]

/-- SLEEP where it has its effect (R392; log 7). -/
theorem exec_sleep (h : s.cfg.sleepEffect = .modelled) : exec .sleep s = .next ({ s with
    sleeping := s.sleeping || s.sleepAnswers.headD true, sleepAnswers := s.sleepAnswers.tail }.advance 1) := by
  simp only [exec, execSleep, h]

/-- WDR where it has its effect (R393). -/
theorem exec_wdr (h : s.cfg.wdrEffect = .modelled) : exec .wdr s = .next ((s.event .wdr).advance 1) := by
  simp only [exec, execWdr, h]

/-- The coming answer of Io.SleepEnabled() is true where it says so or none is left (log 7). -/
theorem headD_true_eq (l : List Bool) : l.headD true = (l = [] || l.head? = some true : Bool) := by
  cases l with
  | nil => rfl
  | cons x l => cases x <;> rfl

/-- Settles O60: each of the four goes on one word after its one write (exec_brk, exec_sleep, exec_wdr). -/
theorem mcuControl : Obligations.McuControl := by
  intro s
  have hrefl := State.OnlyChanges.refl s
  refine ⟨?nop, fun h => ?brk, fun h => ?sleep, fun h => ?wdr, fun h => ?noBreak, fun h => ?noSleep, fun h => ?noWdr⟩
  case nop => exact ⟨_, rfl, rfl, (hrefl []).advance⟩
  case brk => exact ⟨_, exec_brk h, rfl, rfl, ((hrefl _).setStopped _ (by simp)).advance⟩
  case sleep =>
    exact ⟨_, exec_sleep h, rfl, congrArg (s.sleeping || ·) (headD_true_eq s.sleepAnswers), List.drop_one.symm,
      ((hrefl _).setSleeping _ _ (by simp) (by simp)).advance⟩
  case wdr => exact ⟨_, exec_wdr h, rfl, rfl, ((hrefl _).event (by simp)).advance⟩
  case noBreak => simp only [exec, execBreak, h]
  case noSleep => simp only [exec, execSleep, h]
  case noWdr => simp only [exec, execWdr, h]

end Sys2Proof.Machine
end

section
/-! When a request is entered (60_exceptions R404), and how deep handlers nest (R411). -/

namespace Sys2Proof.Machine

variable {s : State}

/-! ### The conditions on a request (R404; log 16) -/

theorem vectorExists_iff {c : Config} {n : Nat} :
    vectorExists c n = true ↔ 1 ≤ n ∧ ∀ k, c.ivecCount = some k → n < k := by
  cases hcount : c.ivecCount <;> simp [vectorExists, hcount, Nat.one_le_iff_ne_zero]

theorem State.maySend_iff {level : IrqLevel} : s.maySend level = true ↔
    (flagI s.sreg = true ∨ level = .nmi) ∧ s.inhibit = false ∧
      (s.cfg.core.masksByLevel = true → ∀ l ∈ s.inService, l.rank < level.rank) := by
  cases hmask : s.cfg.core.masksByLevel <;> simp [State.maySend, hmask, and_assoc]

theorem State.granted_irq_eq_some_iff {n : Nat} {level : IrqLevel} : s.granted (.irq n level) = some (n, level) ↔
    s.maySend level = true ∧ level ∈ s.cfg.levels ∧ vectorExists s.cfg n = true := by
  simp [State.granted, and_assoc]

/-- Of a boundary where an interrupt asks, an entry is a grant of the request. -/
theorem State.boundary_enters_iff {n : Nat} {level : IrqLevel} (hstop : s.stopped = false)
    (hasked : s.envHead = .irq n level) :
    (∃ u, s.boundary = .interrupt n level u) ↔ s.granted (.irq n level) = some (n, level) := by
  have hreset : s.envHead ≠ .reset := by simp [hasked]
  rw [← hasked]
  refine ⟨fun ⟨u, hu⟩ => ?_, fun hg => ⟨_, State.boundary_of_granted hstop hreset hg⟩⟩
  cases hg : s.granted s.envHead with
  | some request =>
    cases (State.boundary_of_granted hstop hreset hg).symm.trans hu
    rfl
  | none =>
    rw [State.boundary_of_not_granted hstop hreset hg] at hu
    split at hu <;> cases hu

/-- Settles O14: an entry is a grant, and a grant is the three conditions on a level and a vector of the configuration. -/
theorem interruptTaken : Obligations.InterruptTaken := by
  intro s n level hstop hasked
  rw [State.boundary_enters_iff hstop hasked, State.granted_irq_eq_some_iff, State.maySend_iff, vectorExists_iff]
  simp only [and_assoc]

/-! ### The nesting of handlers (R405, R411) -/

/-- Where levels mask, the ranks in service fall strictly, so that no level is in service twice. -/
theorem State.Inv.nodup_inService (h : s.Inv) (hmask : s.cfg.core.masksByLevel = true) : s.inService.Nodup := by
  refine (h.service hmask).imp ?_
  rintro a _ hrank rfl
  exact Nat.lt_irrefl _ hrank

/-- Where levels mask, handlers nest no deeper than the configuration has levels. -/
theorem State.Inv.nesting_le (h : s.Inv) (hmask : s.cfg.core.masksByLevel = true) :
    s.inService.length ≤ s.cfg.levels.length :=
  ((h.nodup_inService hmask).subperm h.levels).length_le

/-- Settles O18: the AVR128DA64 masks by level and has three levels. -/
theorem nestingDepth : Obligations.NestingDepth := by
  intro s h hcfg
  have hmask : s.cfg.core.masksByLevel = true := by rw [hcfg]; rfl
  have hdepth := h.nesting_le hmask
  rw [hcfg] at hdepth
  exact hdepth

end Sys2Proof.Machine
end

section
/-! The cycle counter, which no rule reads (70_reset R460), and the reset request (R440, R441). That an operation does not
read the counter is said once in one way: started with the counter at `n`, it answers what it answers otherwise, with the
counter at `n`. -/

namespace Sys2Proof.Machine

variable {s : State} {n : Nat}

/-! ### An answer with another counter -/

/-- The state with the cycle counter at `n`. -/
def State.setCyc (s : State) (n : Nat) : State := { s with cyc := n }

@[simp] theorem State.setCyc_cfg (s : State) (n : Nat) : (s.setCyc n).cfg = s.cfg := rfl
@[simp] theorem State.setCyc_pc (s : State) (n : Nat) : (s.setCyc n).pc = s.pc := rfl
@[simp] theorem State.setCyc_sreg (s : State) (n : Nat) : (s.setCyc n).sreg = s.sreg := rfl
@[simp] theorem State.setCyc_data (s : State) (n : Nat) : (s.setCyc n).data = s.data := rfl
@[simp] theorem State.setCyc_r (s : State) (n : Nat) (i : Reg) : (s.setCyc n).r i = s.r i := rfl
@[simp] theorem State.setCyc_progWord (s : State) (n w : Nat) : (s.setCyc n).progWord w = s.progWord w := rfl
@[simp] theorem State.setCyc_ptrGet (s : State) (n : Nat) (p : Ptr) : (s.setCyc n).ptrGet p = s.ptrGet p := rfl

theorem State.setCyc_self (s : State) : s.setCyc s.cyc = s := rfl

/-- A value read, and the state after the read with the cycle counter at `n`. -/
def setCycRead {α : Type} (n : Nat) (p : α × State) : α × State := (p.1, p.2.setCyc n)

/-- An answer with `f` applied; a fault or a refusal stays. -/
def mapNext {α β : Type} (f : α → β) (o : Res α) : Res β := andThen o fun a => .next (f a)

@[simp] theorem mapNext_next {α β : Type} (f : α → β) (a : α) : mapNext f (.next a) = .next (f a) := rfl

/-- In a sequence, what is mapped may be mapped at the end where the second operation allows it. -/
theorem andThen_mapNext {α α' β β' : Type} {f : α → α'} {g : β → β'} {k : α → Res β} {k' : α' → Res β'} (o : Res α)
    (hk : ∀ a, k' (f a) = mapNext g (k a)) : andThen (mapNext f o) k' = mapNext g (andThen o k) := by
  cases o with
  | next a => exact hk a
  | fault => rfl
  | refused => rfl

/-- The same after an operation that answers no state. -/
theorem andThen_eq_mapNext {α β β' : Type} {g : β → β'} {k : α → Res β} {k' : α → Res β'} (o : Res α)
    (hk : ∀ a, k' a = mapNext g (k a)) : andThen o k' = mapNext g (andThen o k) := by
  cases o with
  | next a => exact hk a
  | fault => rfl
  | refused => rfl

/-! ### The operations over registers and memory -/

theorem State.ioRead_setCyc (s : State) (n a : Nat) : (s.setCyc n).ioRead a = setCycRead n (s.ioRead a) := by
  simp only [State.ioRead, apply_ite (setCycRead n)]
  rfl

theorem State.ioWrite_setCyc (s : State) (n a : Nat) (v : Byte) :
    (s.setCyc n).ioWrite a v = (s.ioWrite a v).setCyc n := by
  simp only [State.ioWrite, apply_ite (State.setCyc · n)]
  rfl

theorem State.ramRead_setCyc (s : State) (n a : Nat) : (s.setCyc n).ramRead a = setCycRead n (s.ramRead a) := by
  unfold State.ramRead
  simp only [State.setCyc_data]
  split <;> rfl

theorem State.memRead_setCyc (s : State) (n a : Nat) :
    (s.setCyc n).memRead a = mapNext (setCycRead n) (s.memRead a) := by
  unfold State.memRead
  simp only [State.setCyc_cfg]
  split
  · exact congrArg Host.Outcome.next (s.ramRead_setCyc n a)
  · rfl
  · exact congrArg Host.Outcome.next (s.ioRead_setCyc n _)
  · exact andThen_eq_mapNext (s.progByte _) fun _ => rfl
  · rfl
  · rfl

theorem State.memWrite_setCyc (s : State) (n a : Nat) (v : Byte) :
    (s.setCyc n).memWrite a v = mapNext (·.setCyc n) (s.memWrite a v) := by
  unfold State.memWrite
  simp only [State.setCyc_cfg]
  split
  · rfl
  · rfl
  · exact congrArg Host.Outcome.next (s.ioWrite_setCyc n _ v)
  · rfl
  · rfl
  · rfl

theorem State.setProgWord_setCyc (s : State) (n b : Nat) (w : Word) :
    (s.setCyc n).setProgWord b w = mapNext (·.setCyc n) (s.setProgWord b w) := by
  simp only [State.setProgWord, apply_ite (mapNext _)]
  rfl

theorem State.push_setCyc (s : State) (n : Nat) (v : Byte) :
    (s.setCyc n).push v = mapNext (·.setCyc n) (s.push v) := by
  rw [State.push, State.memWrite_setCyc]
  exact andThen_mapNext _ fun _ => rfl

theorem State.pop_setCyc (s : State) (n : Nat) : (s.setCyc n).pop = mapNext (setCycRead n) s.pop :=
  (s.setSp _).memRead_setCyc n _

theorem State.pushPc_setCyc (s : State) (n : Nat) (a : BitVec 22) :
    (s.setCyc n).pushPc a = mapNext (·.setCyc n) (s.pushPc a) := by
  rw [State.pushPc, State.push_setCyc]
  refine andThen_mapNext _ fun t => ?_
  rw [State.push_setCyc]
  refine andThen_mapNext _ fun u => ?_
  rw [State.setCyc_cfg]
  split
  · exact u.push_setCyc n _
  · rfl

theorem State.popPc_setCyc (s : State) (n : Nat) : (s.setCyc n).popPc = mapNext (setCycRead n) s.popPc := by
  have popExt : (if (s.setCyc n).cfg.retBytes = 3 then (s.setCyc n).pop else .next (0#8, s.setCyc n)) =
      mapNext (setCycRead n) (if s.cfg.retBytes = 3 then s.pop else .next (0#8, s)) := by
    rw [State.setCyc_cfg]
    split
    · exact s.pop_setCyc n
    · rfl
  rw [State.popPc, popExt]
  refine andThen_mapNext _ fun p => ?_
  simp only [setCycRead, State.pop_setCyc]
  refine andThen_mapNext _ fun q => ?_
  simp only [setCycRead, State.pop_setCyc]
  exact andThen_mapNext _ fun _ => rfl

theorem State.skipIf_setCyc (s : State) (n : Nat) (c : Bool) :
    (s.setCyc n).skipIf c = mapNext (·.setCyc n) (s.skipIf c) := by
  unfold State.skipIf
  simp only [State.setCyc_progWord, State.setCyc_cfg, State.setCyc_pc]
  split
  · rfl
  · cases c <;> rfl
  · cases c <;> rfl

theorem State.enterIrq_setCyc (s : State) (n m : Nat) (level : IrqLevel) :
    (s.setCyc n).enterIrq m level = mapNext (·.setCyc n) (s.enterIrq m level) := by
  rw [State.enterIrq, State.pushPc_setCyc]
  exact andThen_mapNext _ fun _ => rfl

theorem State.ptrSet_setCyc (s : State) (n : Nat) (p : Ptr) (a : Nat) :
    (s.setCyc n).ptrSet p a = (s.ptrSet p a).setCyc n := by
  unfold State.ptrSet
  simp only [State.setCyc_cfg]
  split
  · rfl
  · rfl
  · cases p <;> rfl

theorem State.setBlock_setCyc (s : State) (n : Nat) (b : BitVec 128) :
    (s.setCyc n).setBlock b = (s.setBlock b).setCyc n := by
  unfold State.setBlock
  generalize lowRegs = l
  induction l generalizing s with
  | nil => rfl
  | cons i l ih => exact ih (s.setR i _)

/-! ### The operations that instructions share -/

theorem callTo_setCyc (s : State) (n k target : Nat) :
    callTo k target (s.setCyc n) = mapNext (·.setCyc n) (callTo k target s) := by
  rw [callTo, State.pushPc_setCyc]
  exact andThen_mapNext _ fun _ => rfl

theorem branchIf_setCyc (s : State) (n : Nat) (c : Bool) (k : BitVec 7) :
    branchIf c k (s.setCyc n) = mapNext (·.setCyc n) (branchIf c k s) := by
  cases c <;> rfl

theorem skipIo_setCyc (s : State) (n : Nat) (a : BitVec 5) (b : BitVec 3) (x : Bool) :
    skipIo a b x (s.setCyc n) = mapNext (·.setCyc n) (skipIo a b x s) := by
  rw [skipIo, State.ioRead_setCyc]
  exact State.skipIf_setCyc _ n _

theorem writeIoBit_setCyc (s : State) (n : Nat) (a : BitVec 5) (b : BitVec 3) (x : Bool) :
    writeIoBit a b x (s.setCyc n) = mapNext (·.setCyc n) (writeIoBit a b x s) := by
  rw [writeIoBit, State.ioRead_setCyc, setCycRead, State.ioWrite_setCyc]
  rfl

theorem loadAt_setCyc (s : State) (n a k : Nat) (d : Reg) :
    loadAt a d k (s.setCyc n) = mapNext (·.setCyc n) (loadAt a d k s) := by
  rw [loadAt, State.memRead_setCyc]
  exact andThen_mapNext _ fun _ => rfl

theorem loadInc_setCyc (s : State) (n : Nat) (mn : String) (p : Ptr) (d : Reg) :
    loadInc mn p d (s.setCyc n) = mapNext (·.setCyc n) (loadInc mn p d s) := by
  unfold loadInc
  split
  · rfl
  · rw [State.memRead_setCyc]
    refine andThen_mapNext _ fun ⟨v, t⟩ => ?_
    simp only [setCycRead, State.ptrSet_setCyc]
    rfl

theorem loadDec_setCyc (s : State) (n : Nat) (mn : String) (p : Ptr) (d : Reg) :
    loadDec mn p d (s.setCyc n) = mapNext (·.setCyc n) (loadDec mn p d s) := by
  unfold loadDec
  split
  · rfl
  · rw [State.ptrSet_setCyc]
    exact loadAt_setCyc _ n _ 1 d

theorem storeAt_setCyc (s : State) (n a k : Nat) (r : Reg) :
    storeAt a r k (s.setCyc n) = mapNext (·.setCyc n) (storeAt a r k s) := by
  rw [storeAt, State.memWrite_setCyc]
  exact andThen_mapNext _ fun _ => rfl

theorem storeInc_setCyc (s : State) (n : Nat) (mn : String) (p : Ptr) (r : Reg) :
    storeInc mn p r (s.setCyc n) = mapNext (·.setCyc n) (storeInc mn p r s) := by
  unfold storeInc
  split
  · rfl
  · rw [State.memWrite_setCyc]
    refine andThen_mapNext _ fun t => ?_
    rw [State.ptrSet_setCyc]
    rfl

theorem storeDec_setCyc (s : State) (n : Nat) (mn : String) (p : Ptr) (r : Reg) :
    storeDec mn p r (s.setCyc n) = mapNext (·.setCyc n) (storeDec mn p r s) := by
  unfold storeDec
  split
  · rfl
  · rw [State.ptrSet_setCyc]
    exact storeAt_setCyc _ n _ 1 r

theorem loadProg_setCyc (s : State) (n b : Nat) (d : Reg) :
    loadProg b d (s.setCyc n) = mapNext (·.setCyc n) (loadProg b d s) :=
  andThen_eq_mapNext (s.progByte b) fun _ => rfl

theorem rmw_setCyc (s : State) (n : Nat) (mn : String) (f : Byte → Byte → Byte) (d : Reg) :
    rmw mn f d (s.setCyc n) = mapNext (·.setCyc n) (rmw mn f d s) := by
  unfold rmw
  simp only [State.setCyc_cfg, State.setCyc_ptrGet, State.ramRead_setCyc]
  split <;> rfl

/-- What a device's NVM controller does is a function of the state without the counter (log 13). -/
theorem spmWrite_setCyc (s : State) (n : Nat) : spmWrite (s.setCyc n) = mapNext (·.setCyc n) (spmWrite s) := by
  unfold spmWrite
  rw [State.setCyc_cfg]
  split
  · rfl
  · exact s.setProgWord_setCyc n _ _
  · rfl

theorem State.block_setCyc (s : State) (n : Nat) : (s.setCyc n).block = s.block := by
  simp only [State.block, State.setCyc_r]

theorem State.advance_setCyc (s : State) (n k : Nat) : (s.setCyc n).advance k = (s.advance k).setCyc n := rfl

theorem execDes_setCyc (s : State) (n : Nat) (k : BitVec 4) :
    execDes k (s.setCyc n) = mapNext (·.setCyc n) (execDes k s) := by
  rw [execDes, State.block_setCyc, State.setCyc_sreg, State.setBlock_setCyc, State.advance_setCyc, execDes, mapNext_next]

/-! ### Every instruction -/

/-- No instruction reads the counter or writes it, by the operation that gives it its meaning. -/
theorem exec_setCyc (i : Instr) (s : State) (n : Nat) : exec i (s.setCyc n) = mapNext (·.setCyc n) (exec i s) := by
  cases i with
  | add | adc | sub | subi | sbc | sbci | and | andi | or | ori | eor | com | neg | sbr | cbr | inc | dec | clr | lsl
  | lsr | rol | ror | asr | adiw | sbiw | mul | muls | mulsu | fmul | fmuls | fmulsu | cp | cpc | cpi | tst | bst | ser
  | mov | ldi | swap | bld | movw | rjmp | ijmp | eijmp | jmp | bset | bclr | sec | clc | sen | cln | sez | clz
  | sei | cli | ses | cls | sev | clv | set | clt | seh | clh | nop => rfl
  | des k => exact execDes_setCyc s n k
  | rcall | icall | eicall | call => exact callTo_setCyc s n _ _
  | ret | reti =>
    simp only [exec, execRet, execReti, State.popPc_setCyc]
    exact andThen_mapNext _ fun _ => rfl
  | cpse | sbrc | sbrs => exact s.skipIf_setCyc n _
  | sbic | sbis => exact skipIo_setCyc s n _ _ _
  | brbs | brbc | breq | brne | brcs | brcc | brsh | brlo | brmi | brpl | brge | brlt | brhs | brhc | brts | brtc | brvs
  | brvc | brie | brid => exact branchIf_setCyc s n _ _
  | lds | ldsRc | ldX | ldY | lddY | ldZ | lddZ => exact loadAt_setCyc s n _ _ _
  | ldXInc | ldYInc | ldZInc => exact loadInc_setCyc s n _ _ _
  | ldXDec | ldYDec | ldZDec => exact loadDec_setCyc s n _ _ _
  | sts | stsRc | stX | stY | stdY | stZ | stdZ => exact storeAt_setCyc s n _ _ _
  | stXInc | stYInc | stZInc => exact storeInc_setCyc s n _ _ _
  | stXDec | stYDec | stZDec => exact storeDec_setCyc s n _ _ _
  | lpmR0 | lpmZ | elpmR0 | elpmZ => exact loadProg_setCyc s n _ _
  | lpmZInc | elpmZInc =>
    simp only [exec, execLpmZInc, execElpmZInc]
    split
    · rfl
    · exact andThen_eq_mapNext (s.progByte _) fun _ => rfl
  | spm | spmZInc =>
    simp only [exec, execSpm, execSpmZInc, spmWrite_setCyc]
    exact andThen_mapNext _ fun _ => rfl
  | inIo | out => simp only [exec, execIn, execOut, State.ioRead_setCyc, State.ioWrite_setCyc]; rfl
  | push | pop =>
    simp only [exec, execPush, execPop, State.push_setCyc, State.pop_setCyc]
    exact andThen_mapNext _ fun _ => rfl
  | xch | las | lac | lat => simp only [exec, execXch, execLas, execLac, execLat, rmw_setCyc]
  | sbi | cbi => exact writeIoBit_setCyc s n _ _ _
  | brk | sleep | wdr =>
    simp only [exec, execBreak, execSleep, execWdr, State.setCyc_cfg]
    split <;> rfl

/-- The figures of an instruction do not depend on the time that has passed. -/
theorem instrCost_setCyc (i : Instr) (s t : State) (n m : Nat) :
    instrCost i (s.setCyc n) (t.setCyc m) = instrCost i s t := by
  cases i <;> rfl

/-! ### The boundary and the step -/

/-- A boundary with the counter of its state at `n`. -/
def Boundary.setCyc (n : Nat) : Boundary → Boundary
  | .stopped => .stopped
  | .reset s => .reset (s.setCyc n)
  | .interrupt m level s => .interrupt m level (s.setCyc n)
  | .idle s => .idle (s.setCyc n)
  | .run s => .run (s.setCyc n)

theorem State.boundary_setCyc (s : State) (n : Nat) : (s.setCyc n).boundary = s.boundary.setCyc n := by
  cases hstop : s.stopped with
  | true =>
    rw [State.boundary_of_stopped hstop]
    exact State.boundary_of_stopped (s := s.setCyc n) hstop
  | false =>
    by_cases hreset : s.envHead = .reset
    · rw [State.boundary_of_reset hstop hreset]
      exact State.boundary_of_reset (s := s.setCyc n) hstop hreset
    · cases hg : s.granted s.envHead with
      | some request =>
        rw [State.boundary_of_granted hstop hreset hg]
        exact State.boundary_of_granted (s := s.setCyc n) hstop hreset hg
      | none =>
        rw [State.boundary_of_not_granted hstop hreset hg, apply_ite (Boundary.setCyc n)]
        exact State.boundary_of_not_granted (s := s.setCyc n) hstop hreset hg

theorem State.charge_setCyc (s : State) (n : Nat) (c : Cost) :
    (s.setCyc n).charge c = (s.charge c).setCyc (n + ((s.charge c).cyc - s.cyc)) := by
  cases c <;> simp [State.charge, State.setCyc, Nat.add_assoc]

/-- An operation that reads no counter does not write it either. -/
theorem cyc_eq_of_setCyc {f : State → Res State} {t : State} (hf : ∀ n, f (s.setCyc n) = mapNext (·.setCyc n) (f s))
    (h : f s = .next t) : t.cyc = s.cyc := by
  have hself := hf s.cyc
  rw [State.setCyc_self, h] at hself
  have ht : t = t.setCyc s.cyc := Host.Outcome.next.inj hself
  exact (congrArg State.cyc ht :)

/-- An operation that reads no counter and then its time: as much time passes whatever the counter was. -/
theorem andThen_charge_setCyc {f : State → Res State} (hf : ∀ n, f (s.setCyc n) = mapNext (·.setCyc n) (f s))
    {cost cost' : State → Cost} (hcost : ∀ t, cost' (t.setCyc n) = cost t) :
    andThen (f (s.setCyc n)) (fun t => .next (t.charge (cost' t))) =
      mapNext (fun t => t.setCyc (n + (t.cyc - s.cyc))) (andThen (f s) fun t => .next (t.charge (cost t))) := by
  rw [hf]
  cases h : f s with
  | next t =>
    have hcyc : t.cyc = s.cyc := cyc_eq_of_setCyc hf h
    show Host.Outcome.next ((t.setCyc n).charge (cost' (t.setCyc n))) = _
    rw [hcost, State.charge_setCyc, hcyc]
    rfl
  | fault => rfl
  | refused => rfl

/-- A step from another counter is the same step, and as much time passes in it. -/
theorem step_setCyc (s : State) (n : Nat) :
    step (s.setCyc n) = mapNext (fun t => t.setCyc (n + (t.cyc - s.cyc))) (step s) := by
  rcases s.boundary_cases with e | e | ⟨m, level, -, e⟩ | e | e <;>
    simp only [step, State.boundary_setCyc, e, Boundary.setCyc]
  · rfl
  · exact congrArg Host.Outcome.next (State.charge_setCyc _ n _)
  · exact andThen_charge_setCyc (f := (·.enterIrq m level)) (fun k => State.enterIrq_setCyc _ k m level) fun _ => rfl
  · exact congrArg Host.Outcome.next (State.charge_setCyc _ n _)
  · exact andThen_eq_mapNext _ fun i =>
      andThen_charge_setCyc (fun k => exec_setCyc i _ k) fun t => instrCost_setCyc i _ t n n

/-- Settles O13: the step by its boundary (step_setCyc), and in it every instruction (exec_setCyc). -/
theorem cyclesAreNeverRead : Obligations.CyclesAreNeverRead := fun s n => step_setCyc s n

/-! ### The reset request (R440, R441) -/

theorem State.applyReset_r (s : State) (i : Reg) : s.applyReset.r i = 0#8 := Vector.getElem_replicate i.isLt

theorem State.takeEnv_flashMap_of_reset (h : s.envHead = .reset) : s.takeEnv.flashMap = s.flashMap := by
  simp only [State.takeEnv, h]

/-- A step at whose boundary a reset request stands is the reset, and its time. -/
theorem step_of_reset (hstop : s.stopped = false) (hreset : s.envHead = .reset) :
    step s = .next (s.takeEnv.applyReset.charge .unstated) := by
  simp only [step, State.boundary_of_reset hstop hreset]

/-- Settles O12: the step is Reset() and its time (step_of_reset), asleep or not; the fields of State.applyReset. -/
theorem resetRequest : Obligations.ResetRequest := by
  intro s hstop hreset
  have no_byte : ∀ a, s.takeEnv.applyReset.ramByte a = none := fun _ => rfl
  exact ⟨_, step_of_reset hstop hreset, rfl, rfl, rfl, rfl, rfl, rfl, rfl, rfl, rfl, rfl, rfl, rfl, no_byte,
    s.takeEnv.applyReset_r, rfl, rfl, State.takeEnv_flashMap_of_reset hreset, rfl⟩

end Sys2Proof.Machine
end
